-- ==== Sys2Proof/Word.lean ====
section
/-! DEFINITION. The word type: the command word, the operands A and B and the result R are 32-bit words
(00_scope.md section 5, 30_encoding.md R36). -/

namespace Sys2Proof

/-- A word: "a 32-bit bit pattern" (00_scope.md section 5). -/
abbrev Word := BitVec 32

end Sys2Proof
end

