-- ==== Sys2Proof/Syntax.lean ====
section
/-! DEFINITION. Commands as words and as syntax: one constructor of `Instr` per row of `opcode_table.json`
(30_encoding.md R36 to R43). An operand the command does not use (R43, "not used") is no field of its constructor
(log entry 9). -/

namespace Sys2Proof

/-- The four numeric kinds (00_scope.md R2). -/
inductive Kind
  /-- SI, SignedInt(N) -/
  | si
  /-- UI, UnsignedInt(N) -/
  | ui
  /-- FX, FixedPoint(N,F) -/
  | fx
  /-- UFX, UnsignedFixedPoint(N,F) -/
  | ufx
  deriving DecidableEq, Repr

/-- The type a command word carries: KIND, N and F as the fields stand in the word, so that types R40 calls illegal can be
written down and refused (30_encoding.md R37). -/
structure Ty where
  kind : Kind
  /-- the width field N, 0..63 -/
  n : BitVec 6
  /-- the fraction width field F, 0..63 -/
  f : BitVec 6
  deriving DecidableEq, Repr

/-- A command: the triple (CMD, A, B) (30_encoding.md R36). -/
structure Command where
  cmd : Word
  a : Word
  b : Word
  deriving DecidableEq, Repr

/-- The 64 operations of the opcode map (30_encoding.md R41), each with its type and the operands it uses. -/
inductive Instr
  -- construction, 40_construct_arith.md
  | fromraw (t : Ty) (a : Word)
  | fromint (t : Ty) (a : Word)
  | fromf32 (t : Ty) (a : Word)
  | fromf64 (t : Ty) (a b : Word)
  -- wraparound and saturating arithmetic, 40_construct_arith.md
  | add (t : Ty) (a b : Word)
  | sub (t : Ty) (a b : Word)
  | mul (t : Ty) (a b : Word)
  | div (t : Ty) (a b : Word)
  | mod (t : Ty) (a b : Word)
  | addsat (t : Ty) (a b : Word)
  | subsat (t : Ty) (a b : Word)
  | mulsat (t : Ty) (a b : Word)
  -- power-of-two operations, bitwise logic, shifts and rotates, 41_shift_rotate.md
  | mulpow2 (t : Ty) (a b : Word)
  | divpow2 (t : Ty) (a b : Word)
  | modpow2 (t : Ty) (a b : Word)
  | band (t : Ty) (a b : Word)
  | bor (t : Ty) (a b : Word)
  | bxor (t : Ty) (a b : Word)
  | bnot (t : Ty) (a : Word)
  | shl (t : Ty) (a b : Word)
  | shr (t : Ty) (a b : Word)
  | rol (t : Ty) (a b : Word)
  | ror (t : Ty) (a b : Word)
  -- comparisons, utility operations and bit manipulation, 42_compare_utility_bits.md
  | eq (t : Ty) (a b : Word)
  | ne (t : Ty) (a b : Word)
  | lt (t : Ty) (a b : Word)
  | le (t : Ty) (a b : Word)
  | gt (t : Ty) (a b : Word)
  | ge (t : Ty) (a b : Word)
  | min (t : Ty) (a b : Word)
  | max (t : Ty) (a b : Word)
  | avg (t : Ty) (a b : Word)
  | sign (t : Ty) (a : Word)
  | abs (t : Ty) (a : Word)
  | neg (t : Ty) (a : Word)
  | copysign (t : Ty) (a b : Word)
  | rev (t : Ty) (a : Word)
  | popcnt (t : Ty) (a : Word)
  | parity (t : Ty) (a : Word)
  | clz (t : Ty) (a : Word)
  | ctz (t : Ty) (a : Word)
  | bsr (t : Ty) (a : Word)
  | bsf (t : Ty) (a : Word)
  -- constants, byte access and the Q-format scaler, 43_constants_bytes_qformat.md
  | zero (t : Ty)
  | one (t : Ty)
  | lsb (t : Ty)
  | half (t : Ty)
  | allones (t : Ty)
  | msb (t : Ty)
  | minval (t : Ty)
  | maxval (t : Ty)
  | bit (t : Ty) (a : Word)
  | fraction (t : Ty) (a b : Word)
  | tobytes (t : Ty) (a : Word)
  | frombytes (t : Ty) (a b : Word)
  | getbyte (t : Ty) (a b : Word)
  | setbyte (t : Ty) (a b : Word)
  | convert (t : Ty) (a b : Word)
  | convfrac (t : Ty) (a b : Word)
  -- trigonometric pipeline, 44_trig.md
  | sin (t : Ty) (a : Word)
  | cos (t : Ty) (a : Word)
  | tan (t : Ty) (a : Word)
  | asin (t : Ty) (a : Word)
  | acos (t : Ty) (a : Word)
  deriving DecidableEq, Repr

end Sys2Proof
end

