-- ==== Sys2Proof/WellFormed.lean ====
section
/-! DEFINITION. Which syntax is well formed: a legal type (30_encoding.md R40), and a fixed-point kind for CONVFRAC (R42).
The unit makes the same checks itself when it performs a command (Machine/Operands.lean, Machine/Scale.lean); this file is
the syntax side of them, for statements about encodings. -/

namespace Sys2Proof

/-- "N ≤ 32; F = 0 if KIND is SI or UI; F ≤ N if KIND is FX or UFX" (30_encoding.md R40). -/
def Ty.wellFormed (t : Ty) : Bool :=
  decide (t.n.toNat ≤ 32) &&
    match t.kind with
    | .si | .ui => t.f == 0
    | .fx | .ufx => decide (t.f.toNat ≤ t.n.toNat)

/-- The type an instruction carries in its command word. -/
def Instr.ty : Instr → Ty
  | .fromraw t _ => t
  | .fromint t _ => t
  | .fromf32 t _ => t
  | .fromf64 t _ _ => t
  | .add t _ _ => t
  | .sub t _ _ => t
  | .mul t _ _ => t
  | .div t _ _ => t
  | .mod t _ _ => t
  | .addsat t _ _ => t
  | .subsat t _ _ => t
  | .mulsat t _ _ => t
  | .mulpow2 t _ _ => t
  | .divpow2 t _ _ => t
  | .modpow2 t _ _ => t
  | .band t _ _ => t
  | .bor t _ _ => t
  | .bxor t _ _ => t
  | .bnot t _ => t
  | .shl t _ _ => t
  | .shr t _ _ => t
  | .rol t _ _ => t
  | .ror t _ _ => t
  | .eq t _ _ => t
  | .ne t _ _ => t
  | .lt t _ _ => t
  | .le t _ _ => t
  | .gt t _ _ => t
  | .ge t _ _ => t
  | .min t _ _ => t
  | .max t _ _ => t
  | .avg t _ _ => t
  | .sign t _ => t
  | .abs t _ => t
  | .neg t _ => t
  | .copysign t _ _ => t
  | .rev t _ => t
  | .popcnt t _ => t
  | .parity t _ => t
  | .clz t _ => t
  | .ctz t _ => t
  | .bsr t _ => t
  | .bsf t _ => t
  | .zero t => t
  | .one t => t
  | .lsb t => t
  | .half t => t
  | .allones t => t
  | .msb t => t
  | .minval t => t
  | .maxval t => t
  | .bit t _ => t
  | .fraction t _ _ => t
  | .tobytes t _ => t
  | .frombytes t _ _ => t
  | .getbyte t _ _ => t
  | .setbyte t _ _ => t
  | .convert t _ _ => t
  | .convfrac t _ _ => t
  | .sin t _ => t
  | .cos t _ => t
  | .tan t _ => t
  | .asin t _ => t
  | .acos t _ => t

/-- R42: every opcode is defined for all four kinds, but CONVFRAC only for FX and UFX. -/
def Instr.definedForKind : Instr → Bool
  | .convfrac t _ _ => t.kind == .fx || t.kind == .ufx
  | .fromraw _ _ => true
  | .fromint _ _ => true
  | .fromf32 _ _ => true
  | .fromf64 _ _ _ => true
  | .add _ _ _ => true
  | .sub _ _ _ => true
  | .mul _ _ _ => true
  | .div _ _ _ => true
  | .mod _ _ _ => true
  | .addsat _ _ _ => true
  | .subsat _ _ _ => true
  | .mulsat _ _ _ => true
  | .mulpow2 _ _ _ => true
  | .divpow2 _ _ _ => true
  | .modpow2 _ _ _ => true
  | .band _ _ _ => true
  | .bor _ _ _ => true
  | .bxor _ _ _ => true
  | .bnot _ _ => true
  | .shl _ _ _ => true
  | .shr _ _ _ => true
  | .rol _ _ _ => true
  | .ror _ _ _ => true
  | .eq _ _ _ => true
  | .ne _ _ _ => true
  | .lt _ _ _ => true
  | .le _ _ _ => true
  | .gt _ _ _ => true
  | .ge _ _ _ => true
  | .min _ _ _ => true
  | .max _ _ _ => true
  | .avg _ _ _ => true
  | .sign _ _ => true
  | .abs _ _ => true
  | .neg _ _ => true
  | .copysign _ _ _ => true
  | .rev _ _ => true
  | .popcnt _ _ => true
  | .parity _ _ => true
  | .clz _ _ => true
  | .ctz _ _ => true
  | .bsr _ _ => true
  | .bsf _ _ => true
  | .zero _ => true
  | .one _ => true
  | .lsb _ => true
  | .half _ => true
  | .allones _ => true
  | .msb _ => true
  | .minval _ => true
  | .maxval _ => true
  | .bit _ _ => true
  | .fraction _ _ _ => true
  | .tobytes _ _ => true
  | .frombytes _ _ _ => true
  | .getbyte _ _ _ => true
  | .setbyte _ _ _ => true
  | .convert _ _ _ => true
  | .sin _ _ => true
  | .cos _ _ => true
  | .tan _ _ => true
  | .asin _ _ => true
  | .acos _ _ => true

/-- A well-formed instruction: its type is legal (R40) and its operation is defined for its kind (R42). -/
def Instr.wellFormed (i : Instr) : Bool :=
  i.ty.wellFormed && i.definedForKind

end Sys2Proof
end

