-- ==== Sys2Proof/Decode.lean ====
section
/-! DEFINITION. The decoder, from a command (three words) to an instruction or a rejection by name (30_encoding.md R37 to
R42), and after it the encoder, from the same layout. Every rejection is IllegalCommand when the unit performs the command
(60_exceptions.md R135). A decoded instruction may still carry an illegal type: that check comes after these (R46) and is made
where the command is performed (log entry 8). -/

namespace Sys2Proof

/-- KIND: 0 = SI, 1 = UI, 2 = FX, 3 = UFX (30_encoding.md R38). -/
def Kind.ofBits (k : BitVec 2) : Kind :=
  match k.toNat with
  | 0 => .si
  | 1 => .ui
  | 2 => .fx
  | _ => .ufx

/-- The KIND field of a kind (30_encoding.md R38). -/
def Kind.bits : Kind → BitVec 2
  | .si => 0
  | .ui => 1
  | .fx => 2
  | .ufx => 3

/-- "KIND bit 0 is 1 exactly for the unsigned kinds" (30_encoding.md R38). -/
def Kind.isUnsigned : Kind → Bool
  | .ui | .ufx => true
  | .si | .fx => false

/-- "KIND bit 1 is 1 exactly for the fixed-point kinds" (30_encoding.md R38). -/
def Kind.isFixed : Kind → Bool
  | .fx | .ufx => true
  | .si | .ui => false

/-- The type fields of a command word or of a target descriptor, one layout for both: KIND in [9:8], N in [15:10], F in
[21:16] (30_encoding.md R37, R44). -/
def tyOfWord (w : Word) : Ty where
  kind := Kind.ofBits (w.extractLsb' 8 2)
  n := w.extractLsb' 10 6
  f := w.extractLsb' 16 6

/-- Why a command word is not decoded. Each is IllegalCommand (60_exceptions.md R135). -/
inductive DecodeError
  /-- bit 7 or a bit of 31:22 is 1 (R39) -/
  | reservedBits
  /-- OP is not in the opcode map (R41) -/
  | unassignedOpcode
  /-- CONVFRAC with KIND SI or UI (R42) -/
  | undefinedForKind
  deriving DecidableEq, Repr

/-- The opcode map (30_encoding.md R41) and the kind restriction of CONVFRAC (R42). -/
def decodeOp (op : Nat) (t : Ty) (a b : Word) : Except DecodeError Instr :=
  match op with
  | 0x01 => .ok (.fromraw t a)
  | 0x02 => .ok (.fromint t a)
  | 0x03 => .ok (.fromf32 t a)
  | 0x04 => .ok (.fromf64 t a b)
  | 0x08 => .ok (.add t a b)
  | 0x09 => .ok (.sub t a b)
  | 0x0A => .ok (.mul t a b)
  | 0x0B => .ok (.div t a b)
  | 0x0C => .ok (.mod t a b)
  | 0x0D => .ok (.addsat t a b)
  | 0x0E => .ok (.subsat t a b)
  | 0x0F => .ok (.mulsat t a b)
  | 0x10 => .ok (.mulpow2 t a b)
  | 0x11 => .ok (.divpow2 t a b)
  | 0x12 => .ok (.modpow2 t a b)
  | 0x14 => .ok (.band t a b)
  | 0x15 => .ok (.bor t a b)
  | 0x16 => .ok (.bxor t a b)
  | 0x17 => .ok (.bnot t a)
  | 0x18 => .ok (.shl t a b)
  | 0x19 => .ok (.shr t a b)
  | 0x1A => .ok (.rol t a b)
  | 0x1B => .ok (.ror t a b)
  | 0x20 => .ok (.eq t a b)
  | 0x21 => .ok (.ne t a b)
  | 0x22 => .ok (.lt t a b)
  | 0x23 => .ok (.le t a b)
  | 0x24 => .ok (.gt t a b)
  | 0x25 => .ok (.ge t a b)
  | 0x28 => .ok (.min t a b)
  | 0x29 => .ok (.max t a b)
  | 0x2A => .ok (.avg t a b)
  | 0x2B => .ok (.sign t a)
  | 0x2C => .ok (.abs t a)
  | 0x2D => .ok (.neg t a)
  | 0x2E => .ok (.copysign t a b)
  | 0x30 => .ok (.rev t a)
  | 0x31 => .ok (.popcnt t a)
  | 0x32 => .ok (.parity t a)
  | 0x33 => .ok (.clz t a)
  | 0x34 => .ok (.ctz t a)
  | 0x35 => .ok (.bsr t a)
  | 0x36 => .ok (.bsf t a)
  | 0x38 => .ok (.zero t)
  | 0x39 => .ok (.one t)
  | 0x3A => .ok (.lsb t)
  | 0x3B => .ok (.half t)
  | 0x3C => .ok (.allones t)
  | 0x3D => .ok (.msb t)
  | 0x3E => .ok (.minval t)
  | 0x3F => .ok (.maxval t)
  | 0x40 => .ok (.bit t a)
  | 0x41 => .ok (.fraction t a b)
  | 0x44 => .ok (.tobytes t a)
  | 0x45 => .ok (.frombytes t a b)
  | 0x46 => .ok (.getbyte t a b)
  | 0x47 => .ok (.setbyte t a b)
  | 0x48 => .ok (.convert t a b)
  | 0x49 => if t.kind.isFixed then .ok (.convfrac t a b) else .error .undefinedForKind
  | 0x50 => .ok (.sin t a)
  | 0x51 => .ok (.cos t a)
  | 0x52 => .ok (.tan t a)
  | 0x53 => .ok (.asin t a)
  | 0x54 => .ok (.acos t a)
  | _ => .error .unassignedOpcode

/-- Decode a command: reserved bits first, then the opcode and its kind (30_encoding.md R46, checks 1 and 2). -/
def decode (c : Command) : Except DecodeError Instr :=
  if c.cmd.extractLsb' 7 1 = 0 ∧ c.cmd.extractLsb' 22 10 = 0 then
    decodeOp (c.cmd.extractLsb' 0 7).toNat (tyOfWord c.cmd) c.a c.b
  else
    .error .reservedBits

/-- The type fields of a word with every other bit 0: `(KIND << 8) | (N << 10) | (F << 16)` (30_encoding.md R44). -/
def descriptor (t : Ty) : Word :=
  BitVec.ofNat 32 (t.kind.bits.toNat * 2 ^ 8 + t.n.toNat * 2 ^ 10 + t.f.toNat * 2 ^ 16)

/-- The command word: `CMD = OP | (KIND << 8) | (N << 10) | (F << 16)` (30_encoding.md R37). -/
def cmdWord (op : BitVec 7) (t : Ty) : Word :=
  BitVec.ofNat 32 (op.toNat + t.kind.bits.toNat * 2 ^ 8 + t.n.toNat * 2 ^ 10 + t.f.toNat * 2 ^ 16)

/-- The words of an instruction. An operand it does not use "is omitted and is 0 in the encoding" (30_encoding.md R47). -/
def encode : Instr → Command
  | .fromraw t a => ⟨cmdWord 0x01 t, a, 0⟩
  | .fromint t a => ⟨cmdWord 0x02 t, a, 0⟩
  | .fromf32 t a => ⟨cmdWord 0x03 t, a, 0⟩
  | .fromf64 t a b => ⟨cmdWord 0x04 t, a, b⟩
  | .add t a b => ⟨cmdWord 0x08 t, a, b⟩
  | .sub t a b => ⟨cmdWord 0x09 t, a, b⟩
  | .mul t a b => ⟨cmdWord 0x0A t, a, b⟩
  | .div t a b => ⟨cmdWord 0x0B t, a, b⟩
  | .mod t a b => ⟨cmdWord 0x0C t, a, b⟩
  | .addsat t a b => ⟨cmdWord 0x0D t, a, b⟩
  | .subsat t a b => ⟨cmdWord 0x0E t, a, b⟩
  | .mulsat t a b => ⟨cmdWord 0x0F t, a, b⟩
  | .mulpow2 t a b => ⟨cmdWord 0x10 t, a, b⟩
  | .divpow2 t a b => ⟨cmdWord 0x11 t, a, b⟩
  | .modpow2 t a b => ⟨cmdWord 0x12 t, a, b⟩
  | .band t a b => ⟨cmdWord 0x14 t, a, b⟩
  | .bor t a b => ⟨cmdWord 0x15 t, a, b⟩
  | .bxor t a b => ⟨cmdWord 0x16 t, a, b⟩
  | .bnot t a => ⟨cmdWord 0x17 t, a, 0⟩
  | .shl t a b => ⟨cmdWord 0x18 t, a, b⟩
  | .shr t a b => ⟨cmdWord 0x19 t, a, b⟩
  | .rol t a b => ⟨cmdWord 0x1A t, a, b⟩
  | .ror t a b => ⟨cmdWord 0x1B t, a, b⟩
  | .eq t a b => ⟨cmdWord 0x20 t, a, b⟩
  | .ne t a b => ⟨cmdWord 0x21 t, a, b⟩
  | .lt t a b => ⟨cmdWord 0x22 t, a, b⟩
  | .le t a b => ⟨cmdWord 0x23 t, a, b⟩
  | .gt t a b => ⟨cmdWord 0x24 t, a, b⟩
  | .ge t a b => ⟨cmdWord 0x25 t, a, b⟩
  | .min t a b => ⟨cmdWord 0x28 t, a, b⟩
  | .max t a b => ⟨cmdWord 0x29 t, a, b⟩
  | .avg t a b => ⟨cmdWord 0x2A t, a, b⟩
  | .sign t a => ⟨cmdWord 0x2B t, a, 0⟩
  | .abs t a => ⟨cmdWord 0x2C t, a, 0⟩
  | .neg t a => ⟨cmdWord 0x2D t, a, 0⟩
  | .copysign t a b => ⟨cmdWord 0x2E t, a, b⟩
  | .rev t a => ⟨cmdWord 0x30 t, a, 0⟩
  | .popcnt t a => ⟨cmdWord 0x31 t, a, 0⟩
  | .parity t a => ⟨cmdWord 0x32 t, a, 0⟩
  | .clz t a => ⟨cmdWord 0x33 t, a, 0⟩
  | .ctz t a => ⟨cmdWord 0x34 t, a, 0⟩
  | .bsr t a => ⟨cmdWord 0x35 t, a, 0⟩
  | .bsf t a => ⟨cmdWord 0x36 t, a, 0⟩
  | .zero t => ⟨cmdWord 0x38 t, 0, 0⟩
  | .one t => ⟨cmdWord 0x39 t, 0, 0⟩
  | .lsb t => ⟨cmdWord 0x3A t, 0, 0⟩
  | .half t => ⟨cmdWord 0x3B t, 0, 0⟩
  | .allones t => ⟨cmdWord 0x3C t, 0, 0⟩
  | .msb t => ⟨cmdWord 0x3D t, 0, 0⟩
  | .minval t => ⟨cmdWord 0x3E t, 0, 0⟩
  | .maxval t => ⟨cmdWord 0x3F t, 0, 0⟩
  | .bit t a => ⟨cmdWord 0x40 t, a, 0⟩
  | .fraction t a b => ⟨cmdWord 0x41 t, a, b⟩
  | .tobytes t a => ⟨cmdWord 0x44 t, a, 0⟩
  | .frombytes t a b => ⟨cmdWord 0x45 t, a, b⟩
  | .getbyte t a b => ⟨cmdWord 0x46 t, a, b⟩
  | .setbyte t a b => ⟨cmdWord 0x47 t, a, b⟩
  | .convert t a b => ⟨cmdWord 0x48 t, a, b⟩
  | .convfrac t a b => ⟨cmdWord 0x49 t, a, b⟩
  | .sin t a => ⟨cmdWord 0x50 t, a, 0⟩
  | .cos t a => ⟨cmdWord 0x51 t, a, 0⟩
  | .tan t a => ⟨cmdWord 0x52 t, a, 0⟩
  | .asin t a => ⟨cmdWord 0x53 t, a, 0⟩
  | .acos t a => ⟨cmdWord 0x54 t, a, 0⟩

/-- The command whose words stand in one number, bit 0 the least significant bit of CMD: CMD in bits 31..0, A in 63..32, B in
95..64 (the numbering of `opcode_table.json` carried on over the operand words). -/
def commandOfBits (w : Nat) : Command where
  cmd := BitVec.ofNat 32 w
  a := BitVec.ofNat 32 (w / 2 ^ 32)
  b := BitVec.ofNat 32 (w / 2 ^ 64)

/-- What the decoder reads from the command whose low `nbits` bits are `w` and whose other bits are 0. -/
def decodeTableWord (nbits w : Nat) : Option Instr :=
  (decode (commandOfBits (w % 2 ^ nbits))).toOption

end Sys2Proof
end

