-- ==== Sys2Proof/Machine/Flags.lean ====
section
/-! DEFINITION. The status a command produces. The unit has no condition codes (10_state.md R21): "the only status a command
produces is the ERR field of its own response", and a comparison returns its truth value in R. -/

namespace Sys2Proof.Machine

/-- The errors a command can raise (60_exceptions.md R128). -/
inductive UnitError
  /-- FormatError: FROMBYTES with the wrong length (R131) -/
  | format
  /-- RangeError: a shift, rotate, bit or byte index outside its window (R132) -/
  | range
  /-- DivideByZeroError: DIV, MOD, FRACTION by zero (R133) -/
  | divideByZero
  /-- UnsupportedWidthError: a type outside the legal widths (R134) -/
  | unsupportedWidth
  /-- IllegalCommand: a command word or descriptor the unit does not decode (R135) -/
  | illegalCommand
  deriving DecidableEq, Repr

/-- The ERR code of an error (60_exceptions.md R128). 0 is OK; 6 and 7 are never produced. -/
def UnitError.code : UnitError → BitVec 3
  | .format => 1
  | .range => 2
  | .divideByZero => 3
  | .unsupportedWidth => 4
  | .illegalCommand => 5

/-- The result of an operation: the integer its rule computes, or the error it raises. -/
abbrev Result := Except UnitError Int

/-- A truth value as a result: 1 when the relation holds and 0 when it does not (42_compare_utility_bits.md R74). -/
def truth (p : Bool) : Int :=
  if p then 1 else 0

end Sys2Proof.Machine
end

