-- ==== Sys2Proof/Machine/Operands.lean ====
section
/-! DEFINITION. The width table, wrapping, and how operand words are read (10_state.md R5 to R16, 30_encoding.md R40 to R44,
00_scope.md section 5). Values are mathematical integers; a value is brought to a width only by an explicit function here. -/

namespace Sys2Proof.Machine

/-! ### The width table -/

/-- `mask(N) = 2^N − 1` (10_state.md R5). -/
def mask (n : Nat) : Nat :=
  2 ^ n - 1

/-- `signBit(N) = N==0 ? 0 : 1<<(N-1)` (10_state.md R6). -/
def signBit (n : Nat) : Nat :=
  if n = 0 then 0 else 2 ^ (n - 1)

/-- `signedMin(N)`: −2^(N−1), and −1 for N = 0 (10_state.md R7). -/
def signedMin (n : Nat) : Int :=
  if n = 0 then -1 else -((2 ^ (n - 1) : Nat) : Int)

/-- `signedMax(N)`: 2^(N−1) − 1, and −1 for N = 0 (10_state.md R7). -/
def signedMax (n : Nat) : Int :=
  if n = 0 then -1 else ((2 ^ (n - 1) : Nat) : Int) - 1

/-- `unsignedMax(N) = mask(N)` (10_state.md R7). -/
def unsignedMax (n : Nat) : Int :=
  (mask n : Int)

/-- One row of the WidthTable (10_state.md R8). -/
structure WidthRow where
  mask : Nat
  signBit : Nat
  signedMin : Int
  signedMax : Int
  unsignedMax : Int
  deriving DecidableEq, Repr

/-- The row of width N of the constant WidthTable: "each cell follows from rules R5, R6 and R7" (10_state.md R8). -/
def widthRow (n : Nat) : WidthRow :=
  ⟨mask n, signBit n, signedMin n, signedMax n, unsignedMax n⟩

/-! ### Sign extension and wrapping -/

/-- `zext_N(v) = v mod 2^N`, in 0..2^N − 1 (10_state.md R10). -/
def zext (n : Nat) (v : Int) : Int :=
  v % ((2 ^ n : Nat) : Int)

/-- `sext_N(v)`: the signed value of the low N bits of v, and −1 for N = 0 (10_state.md R9). -/
def sext (n : Nat) (v : Int) : Int :=
  if n = 0 then -1
  else if ((2 ^ (n - 1) : Nat) : Int) ≤ zext n v then zext n v - ((2 ^ n : Nat) : Int)
  else zext n v

/-- `pat_N(v)`: the N-bit pattern of a value, read unsigned; "the same function as zext_N" (10_state.md R12). -/
def pat (n : Nat) (v : Int) : Nat :=
  (zext n v).toNat

/-- `word(v) = v mod 2^32`, the result word of an integer (10_state.md R14). -/
def word (v : Int) : Word :=
  BitVec.ofInt 32 v

/-- `s32(x)`: a word read as a two's-complement integer, `sext_32(x)` (10_state.md R10). -/
def s32 (x : Word) : Int :=
  sext 32 (x.toNat : Int)

/-! ### Types -/

/-- The width N of a type. -/
abbrev width (t : Ty) : Nat :=
  t.n.toNat

/-- The fraction width F of a type. -/
abbrev frac (t : Ty) : Nat :=
  t.f.toNat

/-- The type check the unit makes on every command and on CONVERT's target: "N ≤ 32; F = 0 if KIND is SI or UI; F ≤ N if KIND
is FX or UFX" (30_encoding.md R40; 60_exceptions.md R134). -/
def typeLegal (t : Ty) : Bool :=
  decide (width t ≤ 32) && (if t.kind.isFixed then decide (frac t ≤ width t) else decide (frac t = 0))

/-- `wrap_K(v)`: "`sext_N(v)` when K is signed (SI, FX) and `zext_N(v)` when K is unsigned (UI, UFX)" (10_state.md R11). -/
def wrap (t : Ty) (v : Int) : Int :=
  if t.kind.isUnsigned then zext (width t) v else sext (width t) v

/-- `val_K(x) = wrap_K(x)`: a value operand is read by canonicalisation (10_state.md R13). -/
def val (t : Ty) (x : Word) : Int :=
  wrap t (x.toNat : Int)

/-- The pattern of a value operand, `pat_N(val_K(x))`. -/
def patVal (t : Ty) (x : Word) : Nat :=
  pat (width t) (val t x)

/-- The kind's lower bound `lo` (40_construct_arith.md, template). -/
def lo (t : Ty) : Int :=
  if t.kind.isUnsigned then 0 else signedMin (width t)

/-- The kind's upper bound `hi` (40_construct_arith.md, template). -/
def hi (t : Ty) : Int :=
  if t.kind.isUnsigned then unsignedMax (width t) else signedMax (width t)

/-- The canonical values of a type: `lo..hi` (10_state.md R15). -/
def canonical (t : Ty) (v : Int) : Bool :=
  decide (lo t ≤ v) && decide (v ≤ hi t)

/-- A target type descriptor in operand B: its reserved bits first, then its type (30_encoding.md R44, R46). -/
def targetType (b : Word) : Except UnitError Ty :=
  if b.extractLsb' 0 8 = 0 ∧ b.extractLsb' 22 10 = 0 then
    if typeLegal (tyOfWord b) then .ok (tyOfWord b) else .error .unsupportedWidth
  else .error .illegalCommand

/-! ### Notation of 00_scope.md section 5 -/

/-- `clamp(v, lo, hi)`: lo if v < lo, hi if v > hi, else v. -/
def clamp (v l h : Int) : Int :=
  if v < l then l else if h < v then h else v

/-- `a << k` for k ≥ 0: `a · 2^k`. -/
def shiftLeft (a : Int) (k : Nat) : Int :=
  a * ((2 ^ k : Nat) : Int)

/-- `a >> k` for k ≥ 0: `floor(a / 2^k)` (the divisor is positive, so Lean's `/` is the floor). -/
def shiftRight (a : Int) (k : Nat) : Int :=
  a / ((2 ^ k : Nat) : Int)

/-- `shiftscale(v, d)`: `v · 2^d` for d ≥ 0, `floor(v / 2^−d)` for d < 0. -/
def shiftscale (v d : Int) : Int :=
  if 0 ≤ d then shiftLeft v d.toNat else shiftRight v (-d).toNat

/-- `trunc(a / b)`: the quotient rounded toward zero. -/
def truncDiv (a b : Int) : Int :=
  a.tdiv b

/-- `round_away(num / den)` for den > 0: the nearest integer, ties away from zero. -/
def roundAway (num den : Int) : Int :=
  if 0 ≤ num then (2 * num + den) / (2 * den) else -((2 * -num + den) / (2 * den))

end Sys2Proof.Machine
end

