-- ==== Sys2Proof/Machine/State.lean ====
section
/-! DEFINITION. The state of the unit: the response latch, the command in progress, and the host's input stream (10_state.md
R24, 70_reset_and_hazards.md R144 to R147). The two constant tables of 10_state.md section 1 are constants of the model
(Machine/Lut.lean, Machine/Operands.lean), not state: nothing writes them (R8, R18; log entry 7). -/

namespace Sys2Proof.Machine

/-- What the host does at the unit's inputs in one cycle (70_reset_and_hazards.md R145, R147; log entries 5, 11, 12). -/
inductive HostInput
  /-- the host presents nothing -/
  | idle
  /-- the host presents a command, and holds it until the unit takes it; while it is held, no later entry acts, a reset neither
  (log entry 12) -/
  | issue (c : Command)
  /-- reset is asserted for this cycle, with the command the host wrongly issues meanwhile, if any (R145) -/
  | reset (issued : Option Command)
  deriving DecidableEq, Repr

/-- A command the unit has accepted and not yet completed (R144, R147). -/
structure InProgress where
  /-- the accepted command -/
  command : Command
  /-- the cycles that pass before the cycle that completes it -/
  remaining : Nat
  deriving DecidableEq, Repr

/-- The whole state. RVALID, R and ERR are the response latch of 10_state.md R24. -/
structure State where
  /-- RVALID: "1 when R and ERR hold the response to the most recent completed command" -/
  rvalid : Bool
  /-- R, the result word -/
  r : Word
  /-- ERR, the error code (60_exceptions.md R128) -/
  err : BitVec 3
  /-- the command in progress, if any (70_reset_and_hazards.md R144) -/
  inProgress : Option InProgress
  /-- the model's own field: what the host does in the cycles to come, the next cycle first; an entry lasts one cycle, but for a
  held command (log entry 12), and after the last entry the host is idle (log entry 5) -/
  inputs : List HostInput
  deriving DecidableEq, Repr

/-- The reasons the machine stops with a fault: none. "An error is the unit's only exception, and its trap is the error
response itself" (60_exceptions.md R138), which is a next state (Machine/Ops.lean, `State.raise`; log entry 14). -/
inductive Fault
  deriving DecidableEq, Repr

/-- The reasons the machine refuses an instruction. -/
inductive Refusal
  /-- An instruction with no meaning in this model: raised by no arm of `exec`, since every instruction has one. Safe: a
  refused instruction proves nothing. -/
  | notModelled (mnemonic : String)
  deriving DecidableEq, Repr

/-- What a meaning or a step answers. -/
abbrev StepResult := Host.Outcome State Fault Refusal

/-- The machine right after reset: "RVALID 0, R 0x00000000, ERR 0", "any command in progress discarded"
(70_reset_and_hazards.md R144), and a host that has issued nothing (log entry 5). -/
def State.reset : State where
  rvalid := false
  r := 0
  err := 0
  inProgress := none
  inputs := []

end Sys2Proof.Machine
end

