-- ==== Sys2Proof/Machine/Ops.lean ====
section
/-! DEFINITION. The operations on the state that every command shares: giving a response, raising an error, and the type check
of 30_encoding.md R46. The unit has no memory and no register file to read or write (10_state.md R19, 20_memory.md R25). -/

namespace Sys2Proof.Machine

/-- A response with no error: "(R = word(v), ERR = 0) ... Nothing else changes" (60_exceptions.md R129), with RVALID set
(70_reset_and_hazards.md R147). -/
def State.respond (s : State) (v : Int) : State :=
  { s with rvalid := true, r := word v, err := 0 }

/-- Taking an exception: "(R = 0, ERR = code(E)) ... An error changes no state but the response latch" (60_exceptions.md R130).
It "saves nothing, changes no mode or mask, and transfers control nowhere" (R138), and there is no return from it (R139). -/
def State.raise (s : State) (e : UnitError) : State :=
  { s with rvalid := true, r := 0, err := e.code }

/-- The response to an operation's result. -/
def State.deliver (s : State) (result : Result) : State :=
  match result with
  | .ok v => s.respond v
  | .error e => s.raise e

/-- Perform an operation of type `t` whose own rule gives `result`: the type is checked first (30_encoding.md R46, check 3),
then the operation's own checks, which `result` has made (check 4). Always a next state: an error is a response. -/
def perform (t : Ty) (result : Result) (s : State) : StepResult :=
  .next (if typeLegal t then s.deliver result else s.raise .unsupportedWidth)

/-- A result whose operand must lie in a window, else RangeError (60_exceptions.md R132). Inlined, so that compiled code computes
`v` (which may be a huge power of two outside the window) only inside it. -/
@[inline] def inWindow (window : Bool) (v : Int) : Result :=
  if window then .ok v else .error .range

/-- A result whose divisor must not be zero, else DivideByZeroError (60_exceptions.md R133). -/
def nonZero (divisor v : Int) : Result :=
  if divisor = 0 then .error .divideByZero else .ok v

end Sys2Proof.Machine
end

