-- ==== Sys2Proof/Machine/Arith.lean ====
section
/-! DEFINITION. Wraparound and saturating arithmetic: ADD, SUB, MUL, DIV, MOD, ADDSAT, SUBSAT, MULSAT (40_construct_arith.md
R54 to R61). -/

namespace Sys2Proof.Machine

/-- ADD: `R <- wrap_K(a + b)` (40_construct_arith.md R54). -/
def execAdd (t : Ty) (a b : Word) (s : State) : StepResult :=
  perform t (.ok (wrap t (val t a + val t b))) s

/-- SUB: `R <- wrap_K(a − b)` (40_construct_arith.md R55). -/
def execSub (t : Ty) (a b : Word) (s : State) : StepResult :=
  perform t (.ok (wrap t (val t a - val t b))) s

/-- MUL: the exact product shifted right by F, then wrapped (40_construct_arith.md R56). -/
def execMul (t : Ty) (a b : Word) (s : State) : StepResult :=
  perform t (.ok (wrap t (shiftRight (val t a * val t b) (frac t)))) s

/-- DIV: `trunc((a · 2^F) / b)`, wrapped; DivideByZeroError for b = 0 (40_construct_arith.md R57). -/
def execDiv (t : Ty) (a b : Word) (s : State) : StepResult :=
  perform t (nonZero (val t b) (wrap t (truncDiv (shiftLeft (val t a) (frac t)) (val t b)))) s

/-- MOD: `a − trunc(a / b) · b`, wrapped; DivideByZeroError for b = 0 (40_construct_arith.md R58). -/
def execMod (t : Ty) (a b : Word) (s : State) : StepResult :=
  perform t (nonZero (val t b) (wrap t (val t a - truncDiv (val t a) (val t b) * val t b))) s

/-- ADDSAT: `R <- wrap_K(clamp(a + b, lo, hi))` (40_construct_arith.md R59). -/
def execAddsat (t : Ty) (a b : Word) (s : State) : StepResult :=
  perform t (.ok (wrap t (clamp (val t a + val t b) (lo t) (hi t)))) s

/-- SUBSAT: `R <- wrap_K(clamp(a − b, lo, hi))` (40_construct_arith.md R60). -/
def execSubsat (t : Ty) (a b : Word) (s : State) : StepResult :=
  perform t (.ok (wrap t (clamp (val t a - val t b) (lo t) (hi t)))) s

/-- MULSAT: `R <- wrap_K(clamp(p >> F, lo, hi))` for the exact product p (40_construct_arith.md R61). -/
def execMulsat (t : Ty) (a b : Word) (s : State) : StepResult :=
  perform t (.ok (wrap t (clamp (shiftRight (val t a * val t b) (frac t)) (lo t) (hi t)))) s

end Sys2Proof.Machine
end

