-- ==== Sys2Proof/Machine/Bits.lean ====
section
/-! DEFINITION. Bit manipulation (42_compare_utility_bits.md R88 to R94). Every operation works on the N-bit pattern p. -/

namespace Sys2Proof.Machine

/-- `Σ_{i<N} p[i] · 2^(N−1−i)`: bit i moves to bit N−1−i (42_compare_utility_bits.md R88). -/
def reverseBits : Nat → Nat → Nat
  | 0, _ => 0
  | n + 1, p => p % 2 * 2 ^ n + reverseBits n (p / 2)

/-- The number of 1 bits among the low N bits of p (42_compare_utility_bits.md R89). -/
def popcount : Nat → Nat → Nat
  | 0, _ => 0
  | n + 1, p => p % 2 + popcount n (p / 2)

/-- The index of the highest 1 bit of p, for p ≠ 0 (42_compare_utility_bits.md R91, R93). -/
def highestBit (p : Nat) : Nat :=
  p.log2

/-- The index of the lowest 1 bit of p, for p ≠ 0 with a 1 among its low N bits (42_compare_utility_bits.md R92, R94). -/
def lowestBit : Nat → Nat → Nat
  | 0, _ => 0
  | n + 1, p => if p % 2 = 1 then 0 else 1 + lowestBit n (p / 2)

/-- REV: reverse the order of the N bits (42_compare_utility_bits.md R88). -/
def execRev (t : Ty) (a : Word) (s : State) : StepResult :=
  perform t (.ok (wrap t (reverseBits (width t) (patVal t a) : Int))) s

/-- POPCNT: the number of 1 bits, a plain integer 0..N (42_compare_utility_bits.md R89). -/
def execPopcnt (t : Ty) (a : Word) (s : State) : StepResult :=
  perform t (.ok (popcount (width t) (patVal t a) : Int)) s

/-- PARITY: `R <- popcount(p) mod 2` (42_compare_utility_bits.md R90). -/
def execParity (t : Ty) (a : Word) (s : State) : StepResult :=
  perform t (.ok ((popcount (width t) (patVal t a) % 2 : Nat) : Int)) s

/-- CLZ: N for p = 0, else N − 1 − the index of the highest 1 bit (42_compare_utility_bits.md R91). -/
def execClz (t : Ty) (a : Word) (s : State) : StepResult :=
  perform t (.ok (if patVal t a = 0 then (width t : Int)
    else (width t : Int) - 1 - (highestBit (patVal t a) : Int))) s

/-- CTZ: N for p = 0, else the index of the lowest 1 bit (42_compare_utility_bits.md R92). -/
def execCtz (t : Ty) (a : Word) (s : State) : StepResult :=
  perform t (.ok (if patVal t a = 0 then (width t : Int) else (lowestBit (width t) (patVal t a) : Int))) s

/-- BSR: −1 for p = 0, else the index of the highest 1 bit (42_compare_utility_bits.md R93). -/
def execBsr (t : Ty) (a : Word) (s : State) : StepResult :=
  perform t (.ok (if patVal t a = 0 then -1 else (highestBit (patVal t a) : Int))) s

/-- BSF: −1 for p = 0, else the index of the lowest 1 bit (42_compare_utility_bits.md R94). -/
def execBsf (t : Ty) (a : Word) (s : State) : StepResult :=
  perform t (.ok (if patVal t a = 0 then -1 else (lowestBit (width t) (patVal t a) : Int))) s

end Sys2Proof.Machine
end

