-- ==== Sys2Proof/Machine/Bytes.lean ====
section
/-! DEFINITION. Byte access: TOBYTES, FROMBYTES, GETBYTE, SETBYTE (43_constants_bytes_qformat.md R106 to R109) over the
little-endian byte image of a value (20_memory.md R28). -/

namespace Sys2Proof.Machine

/-- `L = ceil(N/8)`, the bytes of the image of a value of width N (20_memory.md R28). -/
def byteLength (t : Ty) : Nat :=
  (width t + 7) / 8

/-- Byte i of a pattern: `(p >> 8i) & 0xFF` (43_constants_bytes_qformat.md R108). -/
def getByteOf (p i : Nat) : Nat :=
  (p >>> (8 * i)) &&& 0xFF

/-- The pattern with byte i replaced: `(p & ~(0xFF << 8i)) | (y << 8i)`, the complement taken by clearing those bits of p
(43_constants_bytes_qformat.md R109). -/
def setByteOf (p i y : Nat) : Nat :=
  (p ^^^ (p &&& (0xFF <<< (8 * i)))) ||| (y <<< (8 * i))

/-- The window of a byte index: `0 ≤ i < ceil(N/8)` (60_exceptions.md R132). -/
def byteWindow (t : Ty) (i : Int) : Bool :=
  decide (0 ≤ i) && decide (i < (byteLength t : Int))

/-- TOBYTES: the byte image packed into one word, `R <- p` (43_constants_bytes_qformat.md R106). -/
def execTobytes (t : Ty) (a : Word) (s : State) : StepResult :=
  perform t (.ok (patVal t a : Int)) s

/-- FROMBYTES: a value from its image, FormatError unless `s32(B) = L` (43_constants_bytes_qformat.md R107). -/
def execFrombytes (t : Ty) (a b : Word) (s : State) : StepResult :=
  perform t (if s32 b ≠ (byteLength t : Int) then .error .format
    else .ok (wrap t ((a.toNat &&& (2 ^ (8 * byteLength t) - 1) : Nat) : Int))) s

/-- GETBYTE: one byte of the image, a plain integer 0..255, RangeError for an index outside it
(43_constants_bytes_qformat.md R108). -/
def execGetbyte (t : Ty) (a b : Word) (s : State) : StepResult :=
  perform t (inWindow (byteWindow t (s32 b)) (getByteOf (patVal t a) (s32 b).toNat : Int)) s

/-- SETBYTE's index: `i = sext(B[31:8], 24)` (43_constants_bytes_qformat.md R109). -/
def setbyteIndex (b : Word) : Int :=
  sext 24 ((b.extractLsb' 8 24).toNat : Int)

/-- SETBYTE's new byte: `y = B[7:0]` (43_constants_bytes_qformat.md R109). -/
def setbyteByte (b : Word) : Nat :=
  (b.extractLsb' 0 8).toNat

/-- SETBYTE: replace one byte of the image, RangeError for an index outside it (43_constants_bytes_qformat.md R109). -/
def execSetbyte (t : Ty) (a b : Word) (s : State) : StepResult :=
  perform t (inWindow (byteWindow t (setbyteIndex b))
    (wrap t (setByteOf (patVal t a) (setbyteIndex b).toNat (setbyteByte b) : Int))) s

end Sys2Proof.Machine
end

