-- ==== Sys2Proof/Machine/Compare.lean ====
section
/-! DEFINITION. Comparisons and utility operations (42_compare_utility_bits.md R74 to R87). -/

namespace Sys2Proof.Machine

/-- EQ: `R <- (a == b) ? 1 : 0` (42_compare_utility_bits.md R75). -/
def execEq (t : Ty) (a b : Word) (s : State) : StepResult :=
  perform t (.ok (truth (decide (val t a = val t b)))) s

/-- NE: `R <- (a != b) ? 1 : 0` (42_compare_utility_bits.md R76). -/
def execNe (t : Ty) (a b : Word) (s : State) : StepResult :=
  perform t (.ok (truth (decide (val t a ≠ val t b)))) s

/-- LT: `R <- (a < b) ? 1 : 0` (42_compare_utility_bits.md R77). -/
def execLt (t : Ty) (a b : Word) (s : State) : StepResult :=
  perform t (.ok (truth (decide (val t a < val t b)))) s

/-- LE: `R <- (a <= b) ? 1 : 0` (42_compare_utility_bits.md R78). -/
def execLe (t : Ty) (a b : Word) (s : State) : StepResult :=
  perform t (.ok (truth (decide (val t a ≤ val t b)))) s

/-- GT: `R <- (a > b) ? 1 : 0` (42_compare_utility_bits.md R79). -/
def execGt (t : Ty) (a b : Word) (s : State) : StepResult :=
  perform t (.ok (truth (decide (val t b < val t a)))) s

/-- GE: `R <- (a >= b) ? 1 : 0` (42_compare_utility_bits.md R80). -/
def execGe (t : Ty) (a b : Word) (s : State) : StepResult :=
  perform t (.ok (truth (decide (val t b ≤ val t a)))) s

/-- MIN: `R <- wrap_K((a <= b) ? a : b)` (42_compare_utility_bits.md R81). -/
def execMin (t : Ty) (a b : Word) (s : State) : StepResult :=
  perform t (.ok (wrap t (if val t a ≤ val t b then val t a else val t b))) s

/-- MAX: `R <- wrap_K((a >= b) ? a : b)` (42_compare_utility_bits.md R82). -/
def execMax (t : Ty) (a b : Word) (s : State) : StepResult :=
  perform t (.ok (wrap t (if val t b ≤ val t a then val t a else val t b))) s

/-- AVG: the sum wraps first, then halves toward zero (42_compare_utility_bits.md R83). -/
def execAvg (t : Ty) (a b : Word) (s : State) : StepResult :=
  perform t (.ok (wrap t (truncDiv (wrap t (val t a + val t b)) 2))) s

/-- The type's unit: `(K fixed) ? 2^F : 1` (42_compare_utility_bits.md R84, 43_constants_bytes_qformat.md R97). -/
def unit (t : Ty) : Int :=
  if t.kind.isFixed then ((2 ^ frac t : Nat) : Int) else 1

/-- SIGN: −1, 0 or +1 in the type's own unit (42_compare_utility_bits.md R84). -/
def execSign (t : Ty) (a : Word) (s : State) : StepResult :=
  perform t (.ok (wrap t (if 0 < val t a then unit t else if val t a < 0 then -unit t else 0))) s

/-- The exact magnitude `(a < 0) ? −a : a` (42_compare_utility_bits.md R85, R87). -/
def magnitude (v : Int) : Int :=
  if v < 0 then -v else v

/-- ABS: `R <- wrap_K( (a < 0) ? −a : a )` (42_compare_utility_bits.md R85). -/
def execAbs (t : Ty) (a : Word) (s : State) : StepResult :=
  perform t (.ok (wrap t (magnitude (val t a)))) s

/-- NEG: `R <- wrap_K(−a)` (42_compare_utility_bits.md R86). -/
def execNeg (t : Ty) (a : Word) (s : State) : StepResult :=
  perform t (.ok (wrap t (-val t a))) s

/-- COPYSIGN: the magnitude of A with the sign of B (42_compare_utility_bits.md R87). -/
def execCopysign (t : Ty) (a b : Word) (s : State) : StepResult :=
  perform t (.ok (wrap t (if val t b < 0 then -magnitude (val t a) else magnitude (val t a)))) s

end Sys2Proof.Machine
end

