-- ==== Sys2Proof/Machine/Shift.lean ====
section
/-! DEFINITION. The barrel shifter: power-of-two operations, bitwise logic, shifts and rotates (41_shift_rotate.md R63 to
R73). The amount k is `s32(B)`. -/

namespace Sys2Proof.Machine

/-- The window of MULPOW2, DIVPOW2 and MODPOW2: `0 ≤ k ≤ N` (60_exceptions.md R132). -/
def pow2Window (t : Ty) (k : Int) : Bool :=
  decide (0 ≤ k) && decide (k ≤ (width t : Int))

/-- The window of SHL, SHR and BIT: `0 ≤ k < N` (60_exceptions.md R132). -/
def shiftWindow (t : Ty) (k : Int) : Bool :=
  decide (0 ≤ k) && decide (k < (width t : Int))

/-- MULPOW2: `R <- wrap_K(a · 2^k)`, RangeError unless 0 ≤ k ≤ N (41_shift_rotate.md R63). -/
def execMulpow2 (t : Ty) (a b : Word) (s : State) : StepResult :=
  perform t (inWindow (pow2Window t (s32 b)) (wrap t (shiftLeft (val t a) (s32 b).toNat))) s

/-- DIVPOW2: `R <- wrap_K(a >> k)`, RangeError unless 0 ≤ k ≤ N (41_shift_rotate.md R64). -/
def execDivpow2 (t : Ty) (a b : Word) (s : State) : StepResult :=
  perform t (inWindow (pow2Window t (s32 b)) (wrap t (shiftRight (val t a) (s32 b).toNat))) s

/-- MODPOW2: `R <- wrap_K(pat_N(a) & (2^k − 1))`, RangeError unless 0 ≤ k ≤ N (41_shift_rotate.md R65). -/
def execModpow2 (t : Ty) (a b : Word) (s : State) : StepResult :=
  perform t (inWindow (pow2Window t (s32 b)) (wrap t ((patVal t a &&& (2 ^ (s32 b).toNat - 1) : Nat) : Int))) s

/-- AND: `R <- wrap_K(pat_N(a) & pat_N(b))` (41_shift_rotate.md R66). -/
def execAnd (t : Ty) (a b : Word) (s : State) : StepResult :=
  perform t (.ok (wrap t ((patVal t a &&& patVal t b : Nat) : Int))) s

/-- OR: `R <- wrap_K(pat_N(a) | pat_N(b))` (41_shift_rotate.md R67). -/
def execOr (t : Ty) (a b : Word) (s : State) : StepResult :=
  perform t (.ok (wrap t ((patVal t a ||| patVal t b : Nat) : Int))) s

/-- XOR: `R <- wrap_K(pat_N(a) ^ pat_N(b))` (41_shift_rotate.md R68). -/
def execXor (t : Ty) (a b : Word) (s : State) : StepResult :=
  perform t (.ok (wrap t ((patVal t a ^^^ patVal t b : Nat) : Int))) s

/-- NOT: `R <- wrap_K(mask(N) − pat_N(a))` (41_shift_rotate.md R69). -/
def execNot (t : Ty) (a : Word) (s : State) : StepResult :=
  perform t (.ok (wrap t ((mask (width t) : Int) - (patVal t a : Int)))) s

/-- SHL: `R <- wrap_K(a · 2^k)`, RangeError unless 0 ≤ k < N (41_shift_rotate.md R70). -/
def execShl (t : Ty) (a b : Word) (s : State) : StepResult :=
  perform t (inWindow (shiftWindow t (s32 b)) (wrap t (shiftLeft (val t a) (s32 b).toNat))) s

/-- SHR: `R <- wrap_K(a >> k)`, RangeError unless 0 ≤ k < N (41_shift_rotate.md R71). -/
def execShr (t : Ty) (a b : Word) (s : State) : StepResult :=
  perform t (inWindow (shiftWindow t (s32 b)) (wrap t (shiftRight (val t a) (s32 b).toNat))) s

/-- The pattern `p` of N ≥ 1 bits rotated left by j < N: `((p · 2^j) | (p >> (N − j))) & mask(N)` (41_shift_rotate.md R72). -/
def rotateLeft (n p j : Nat) : Nat :=
  ((p * 2 ^ j) ||| (p / 2 ^ (n - j))) &&& mask n

/-- The pattern `p` of N ≥ 1 bits rotated right by j < N: `((p >> j) | (p · 2^(N − j))) & mask(N)` (41_shift_rotate.md R73). -/
def rotateRight (n p j : Nat) : Nat :=
  ((p / 2 ^ j) ||| (p * 2 ^ (n - j))) &&& mask n

/-- ROL: rotate left within N bits by k mod N, RangeError for k < 0; at N = 0 the value (41_shift_rotate.md R72). -/
def execRol (t : Ty) (a b : Word) (s : State) : StepResult :=
  perform t (inWindow (decide (0 ≤ s32 b))
    (if width t = 0 then wrap t (val t a)
     else wrap t (rotateLeft (width t) (patVal t a) ((s32 b).toNat % width t) : Int))) s

/-- ROR: rotate right within N bits by k mod N, RangeError for k < 0; at N = 0 the value (41_shift_rotate.md R73). -/
def execRor (t : Ty) (a b : Word) (s : State) : StepResult :=
  perform t (inWindow (decide (0 ≤ s32 b))
    (if width t = 0 then wrap t (val t a)
     else wrap t (rotateRight (width t) (patVal t a) ((s32 b).toNat % width t) : Int))) s

end Sys2Proof.Machine
end

