-- ==== Sys2Proof/Machine/Constants.lean ====
section
/-! DEFINITION. Constants (43_constants_bytes_qformat.md R95 to R105). "Every constant is wrapped to the type." -/

namespace Sys2Proof.Machine

/-- ZERO: `R <- wrap_K(0)` (43_constants_bytes_qformat.md R96). -/
def execZero (t : Ty) (s : State) : StepResult :=
  perform t (.ok (wrap t 0)) s

/-- ONE: `R <- (K fixed) ? wrap_K(2^F) : wrap_K(1)` (43_constants_bytes_qformat.md R97). -/
def execOne (t : Ty) (s : State) : StepResult :=
  perform t (.ok (wrap t (unit t))) s

/-- LSB: `R <- wrap_K(1)` (43_constants_bytes_qformat.md R98). -/
def execLsb (t : Ty) (s : State) : StepResult :=
  perform t (.ok (wrap t 1)) s

/-- One half: `floor(unsignedMax(N) / 2)` for UI, `floor(signedMax(N) / 2)` for SI, `2^(F−1)` for the fixed kinds and 0 for
F = 0 there (43_constants_bytes_qformat.md R99). -/
def halfOf (t : Ty) : Int :=
  match t.kind with
  | .ui => unsignedMax (width t) / 2
  | .si => signedMax (width t) / 2
  | .fx | .ufx => if frac t = 0 then 0 else ((2 ^ (frac t - 1) : Nat) : Int)

/-- HALF: one half of the type's range or unit (43_constants_bytes_qformat.md R99). -/
def execHalf (t : Ty) (s : State) : StepResult :=
  perform t (.ok (wrap t (halfOf t))) s

/-- ALLONES: `R <- wrap_K(mask(N))` (43_constants_bytes_qformat.md R100). -/
def execAllones (t : Ty) (s : State) : StepResult :=
  perform t (.ok (wrap t (mask (width t) : Int))) s

/-- MSB: `R <- wrap_K(signBit(N))` (43_constants_bytes_qformat.md R101). -/
def execMsb (t : Ty) (s : State) : StepResult :=
  perform t (.ok (wrap t (signBit (width t) : Int))) s

/-- MINVAL: `R <- wrap_K(lo)` (43_constants_bytes_qformat.md R102). -/
def execMinval (t : Ty) (s : State) : StepResult :=
  perform t (.ok (wrap t (lo t))) s

/-- MAXVAL: `R <- wrap_K(hi)` (43_constants_bytes_qformat.md R103). -/
def execMaxval (t : Ty) (s : State) : StepResult :=
  perform t (.ok (wrap t (hi t))) s

/-- BIT: `R <- wrap_K(2^k)` for k = s32(A), RangeError unless 0 ≤ k < N (43_constants_bytes_qformat.md R104). -/
def execBit (t : Ty) (a : Word) (s : State) : StepResult :=
  perform t (inWindow (shiftWindow t (s32 a)) (wrap t ((2 ^ (s32 a).toNat : Nat) : Int))) s

/-- FRACTION: `R <- wrap_K(trunc(num · 2^F / den))`, DivideByZeroError for den = 0 (43_constants_bytes_qformat.md R105). -/
def execFraction (t : Ty) (a b : Word) (s : State) : StepResult :=
  perform t (nonZero (s32 b) (wrap t (truncDiv (shiftLeft (s32 a) (frac t)) (s32 b)))) s

end Sys2Proof.Machine
end

