-- ==== Sys2Proof/Config.lean ====
section
/-! DEFINITION. The unit's parameters (00_scope.md R4). What the spec leaves OPEN is an opaque constant with no body:
no proof can see its value, and a claim holds whatever it is. -/

namespace Sys2Proof

/-- The values of `FLOAT_ROUND_TIES` (R4). -/
inductive TieRule
  /-- a tie goes to the even integer -/
  | even
  /-- a tie goes away from zero -/
  | away
  deriving DecidableEq, Repr, Inhabited

/-- The values of `TRIG_INTERP` (R4). -/
inductive TrigInterp
  /-- linear interpolation between adjacent table points -/
  | linear
  /-- the table point below -/
  | truncate
  deriving DecidableEq, Repr

namespace Config

/-- `FLOAT_ROUND_TIES`: how FROMF32 and FROMF64 round an exact tie. OPEN in R4 and 92_eei_decisions.md D14, so free here
(log entry 3). -/
opaque floatRoundTies : TieRule

/-- `TRIG_INTERP`: "This spec's hardware takes `LINEAR`" (R4; log entry 4). -/
def trigInterp : TrigInterp := .linear

/-- `LATENCY(op)` less one: the cycles a command takes beyond the one every command takes, by OP field and width N.
OPEN in R4 and 70_reset_and_hazards.md R146 ("may differ by operation and by width"), so free here (log entry 1).
Counted less one so that LATENCY(op) ≥ 1 by construction. -/
opaque extraLatency : Nat → Nat → Nat

end Config

end Sys2Proof
end

