-- ==== Sys2Proof/Machine/Construct.lean ====
section
/-! DEFINITION. Construction: FROMRAW, FROMINT, FROMF32, FROMF64 (40_construct_arith.md R49 to R53). -/

namespace Sys2Proof.Machine

/-- FROMRAW: `R <- wrap_K(A)`, A read as an unsigned integer (40_construct_arith.md R49). -/
def execFromraw (t : Ty) (a : Word) (s : State) : StepResult :=
  perform t (.ok (wrap t (a.toNat : Int))) s

/-- FROMINT: `R <- wrap_K(s32(A) · 2^F)` (40_construct_arith.md R50). -/
def execFromint (t : Ty) (a : Word) (s : State) : StepResult :=
  perform t (.ok (wrap t (shiftLeft (s32 a) (frac t)))) s

/-! ### Floating-point data -/

/-- A floating-point datum (40_construct_arith.md R52, R53). -/
inductive FloatDatum
  /-- a NaN of any payload -/
  | nan
  /-- +∞ or −∞ -/
  | infinite (negative : Bool)
  /-- a finite datum: (−1)^negative · significand · 2^exponent, zero and subnormals among them -/
  | finite (negative : Bool) (significand : Nat) (exponent : Int)
  deriving DecidableEq, Repr

/-- Read a datum with `e` exponent bits and `m` fraction bits: the sign above the biased exponent above the fraction. The
all-ones exponent is ±∞ with fraction 0 and a NaN otherwise; exponent 0 is zero or subnormal (40_construct_arith.md R52,
R53; log entry 13). -/
def floatDatum (e m bits : Nat) : FloatDatum :=
  let fraction := bits % 2 ^ m
  let biased := bits / 2 ^ m % 2 ^ e
  let negative := bits / 2 ^ (m + e) % 2 == 1
  if biased = 2 ^ e - 1 then
    if fraction = 0 then .infinite negative else .nan
  else if biased = 0 then
    .finite negative fraction (1 - ((2 ^ (e - 1) - 1 : Nat) : Int) - (m : Int))
  else
    .finite negative (2 ^ m + fraction) ((biased : Int) - ((2 ^ (e - 1) - 1 : Nat) : Int) - (m : Int))

/-- `binary32(A)`: sign A[31], biased exponent A[30:23], fraction A[22:0] (40_construct_arith.md R52). -/
def binary32 (a : Word) : FloatDatum :=
  floatDatum 8 23 a.toNat

/-- `binary64({B, A})`: sign bit 63, biased exponent 62:52, fraction 51:0 (40_construct_arith.md R53; 20_memory.md R29). -/
def binary64 (a b : Word) : FloatDatum :=
  floatDatum 11 52 (b.toNat * 2 ^ 32 + a.toNat)

/-- `round_ties(num / den)` for den > 0: the nearest integer, an exact tie by the rule (00_scope.md section 5). -/
def roundTies (rule : TieRule) (num den : Int) : Int :=
  let below := num / den
  let twiceRest := 2 * (num % den)
  if twiceRest < den then below
  else if den < twiceRest then below + 1
  else
    match rule with
    | .even => if below % 2 = 0 then below else below + 1
    | .away => if num < 0 then below else below + 1

/-- `round_ties(x · 2^F)` for finite x: exact, then one rounding (40_construct_arith.md R51). -/
def scaleAndRound (rule : TieRule) (negative : Bool) (significand : Nat) (exponent : Int) : Int :=
  let signed := if negative then -(significand : Int) else (significand : Int)
  if 0 ≤ exponent then shiftLeft signed exponent.toNat
  else roundTies rule signed ((2 ^ (-exponent).toNat : Nat) : Int)

/-- `floatToValue(x)` (40_construct_arith.md R51): NaN, ±∞ and a rounded value outside the signed 64-bit range give 0. -/
def floatToValue (rule : TieRule) (t : Ty) (x : FloatDatum) : Int :=
  match x with
  | .nan => wrap t 0
  | .infinite _ => wrap t 0
  | .finite negative significand exponent =>
    let n := scaleAndRound rule negative significand (exponent + (frac t : Int))
    if n < -((2 ^ 63 : Nat) : Int) ∨ ((2 ^ 63 : Nat) : Int) - 1 < n then wrap t 0 else wrap t n

/-- FROMF32: construct a value from an IEEE 754 binary32 datum (40_construct_arith.md R52). -/
def execFromf32 (t : Ty) (a : Word) (s : State) : StepResult :=
  perform t (.ok (floatToValue Config.floatRoundTies t (binary32 a))) s

/-- FROMF64: construct a value from an IEEE 754 binary64 datum (40_construct_arith.md R53). -/
def execFromf64 (t : Ty) (a b : Word) (s : State) : StepResult :=
  perform t (.ok (floatToValue Config.floatRoundTies t (binary64 a b))) s

end Sys2Proof.Machine
end

