-- ==== Sys2Proof/Machine/Scale.lean ====
section
/-! DEFINITION. The Q-format scaler: CONVERT and CONVFRAC (43_constants_bytes_qformat.md R110, R111). -/

namespace Sys2Proof.Machine

/-- CONVERT's result: the target descriptor is checked, then `wrap_{K',N'}(shiftscale(a, F' − F))`
(43_constants_bytes_qformat.md R110). -/
def convertResult (t : Ty) (a b : Word) : Result :=
  match targetType b with
  | .ok t' => .ok (wrap t' (shiftscale (val t a) ((frac t' : Int) - (frac t : Int))))
  | .error e => .error e

/-- CONVERT: cross-conversion to another type (43_constants_bytes_qformat.md R110). -/
def execConvert (t : Ty) (a b : Word) (s : State) : StepResult :=
  perform t (convertResult t a b) s

/-- CONVFRAC's result for g = s32(B): UnsupportedWidthError unless 0 ≤ g ≤ N, else `wrap_K(shiftscale(a, g − F))`
(43_constants_bytes_qformat.md R111). -/
def convfracResult (t : Ty) (a b : Word) : Result :=
  if s32 b < 0 ∨ (width t : Int) < s32 b then .error .unsupportedWidth
  else .ok (wrap t (shiftscale (val t a) (s32 b - (frac t : Int))))

/-- CONVFRAC: change the fraction width (43_constants_bytes_qformat.md R111). On SI and UI it is IllegalCommand, before the
type is checked (30_encoding.md R42, R46). -/
def execConvfrac (t : Ty) (a b : Word) (s : State) : StepResult :=
  if t.kind.isFixed then perform t (convfracResult t a b) s else .next (s.raise .illegalCommand)

end Sys2Proof.Machine
end

