-- ==== Sys2Proof/Machine/Trig.lean ====
section
/-! DEFINITION. The trigonometric pipeline: phase extract, rescale, quadrant decoder, table read, interpolator, tangent divider,
ratio mapper, arcsine and arccosine evaluator (44_trig.md R112 to R126). -/

namespace Sys2Proof.Machine

/-! ### SIN, COS and TAN -/

/-- `Sin14(p14)`: the quadrant decoder and table read (44_trig.md R116). -/
def sin14 (p14 : Nat) : Int :=
  let q := p14 / 2 ^ 12
  let i := p14 % 2 ^ 12
  let m := if q = 1 ∨ q = 3 then 4095 - i else i
  if 2 ≤ q then -(lut m : Int) else (lut m : Int)

/-- The 14-bit phase of a phase of N ≤ 14 bits: `(p << (14 − N)) & 0x3FFF` (44_trig.md R115). -/
def rescale14 (n p : Nat) : Nat :=
  p * 2 ^ (14 - n) % 2 ^ 14

/-- The sine of a phase of N > 14 bits: between two adjacent table points (44_trig.md R117). -/
def interpolated (mode : TrigInterp) (n p : Nat) : Int :=
  let d := n - 14
  let p14 := p / 2 ^ d
  let y0 := sin14 p14
  match mode with
  | .truncate => y0
  | .linear => y0 + shiftRight ((sin14 ((p14 + 1) % 2 ^ 14) - y0) * ((p % 2 ^ d : Nat) : Int)) d

/-- `PhaseSin(p)`, the sine of an N-bit phase p (44_trig.md R118). -/
def phaseSin (mode : TrigInterp) (n p : Nat) : Int :=
  if n ≤ 14 then sin14 (rescale14 n p) else interpolated mode n p

/-- The cosine of an N-bit phase: the sine a quarter turn on (44_trig.md R120). -/
def phaseCos (mode : TrigInterp) (n p : Nat) : Int :=
  if n ≤ 14 then sin14 ((p * 2 ^ (14 - n) + 0x1000) % 2 ^ 14)
  else phaseSin mode n ((p + 2 ^ (n - 2)) % 2 ^ n)

/-- int32Max, TAN's sentinel (44_trig.md R121). -/
def tanSentinel : Int :=
  2147483647

/-- The tangent divider: `trunc(s · 2^16 / c)` clamped to ±(2^31 − 1), and the sentinel by the sign of s for c = 0
(44_trig.md R121). -/
def tangent (s c : Int) : Int :=
  if c = 0 then (if s < 0 then -tanSentinel else tanSentinel)
  else clamp (truncDiv (s * 65536) c) (-tanSentinel) tanSentinel

/-- SIN: the sine of the phase, Q16.16, not wrapped to N (44_trig.md R119, R113). -/
def execSin (t : Ty) (a : Word) (s : State) : StepResult :=
  perform t (.ok (phaseSin Config.trigInterp (width t) (patVal t a))) s

/-- COS: the cosine of the phase, Q16.16, not wrapped to N (44_trig.md R120, R113). -/
def execCos (t : Ty) (a : Word) (s : State) : StepResult :=
  perform t (.ok (phaseCos Config.trigInterp (width t) (patVal t a))) s

/-- TAN: the tangent of the phase, Q16.16, with asymptote sentinels (44_trig.md R121). -/
def execTan (t : Ty) (a : Word) (s : State) : StepResult :=
  perform t (.ok (tangent (phaseSin Config.trigInterp (width t) (patVal t a))
    (phaseCos Config.trigInterp (width t) (patVal t a)))) s

/-! ### The ratio mapper -/

/-- The operand's ratio before the clamp, as numerator and positive denominator, for N ≥ 2: a / signedMax(N) for SI, a / 2^F for
FX, (2a − M) / M with M = unsignedMax(N) for UI and UFX (44_trig.md R122). -/
def ratio (t : Ty) (v : Int) : Int × Int :=
  match t.kind with
  | .si => (v, signedMax (width t))
  | .fx => (v, ((2 ^ frac t : Nat) : Int))
  | .ui | .ufx => (2 * v - unsignedMax (width t), unsignedMax (width t))

/-- `xq`: the ratio clamped to [−1, 1] and rounded to the Q16.16 grid, ties away from zero (44_trig.md R122). -/
def ratioQ16 (t : Ty) (v : Int) : Int :=
  let x := ratio t v
  roundAway (clamp x.1 (-x.2) x.2 * 65536) x.2

/-! ### The arcsine and arccosine evaluator

`round_away(arcsin(x / 65536) · m / (π/2))` is the largest k ≤ m with `k = 0` or `sin((2k − 1)π / (4m)) ≤ x / 65536`, since sin
is increasing on [0, π/2] and no argument is a rounding tie (44_trig.md R123). The comparison is made in exact integer arithmetic
on the Taylor polynomial of degree 27 and π to 30 decimals (log entry 6). -/

/-- π · 10^30, to the nearest integer. -/
def piNum : Nat :=
  3141592653589793238462643383280

/-- 10^30. -/
def piDen : Nat :=
  1000000000000000000000000000000

/-- One step of the Horner form of the sine's Taylor polynomial at θ with θ² = u2 / v2: the fraction `h` goes to
`1 − θ² / (2j(2j+1)) · h`. -/
def sineStep (u2 v2 : Int) (j : Nat) (h : Int × Int) : Int × Int :=
  let d := v2 * ((2 * j * (2 * j + 1) : Nat) : Int) * h.2
  (d - u2 * h.1, d)

/-- The factor `h` with `sin θ ≈ θ · h`, from the terms up to `θ^(2j + 1)`: `terms` counts the steps still to be made, `j` the
index of the next one. -/
def sineFactor (u2 v2 : Int) : Nat → Nat → Int × Int
  | 0, _ => (1, 1)
  | terms + 1, j => sineStep u2 v2 j (sineFactor u2 v2 terms (j + 1))

/-- Whether `sin(u / v) ≤ x / 65536`, on the Taylor polynomial of degree 27. -/
def sineAtMost (u v x : Int) : Bool :=
  let h := sineFactor (u * u) (v * v) 13 1
  decide (u * h.1 * 65536 ≤ x * (v * h.2))

/-- Whether the angle `(2k − 1)π / (4m)` is at most the arcsine of x / 65536: `sin((2k − 1)π / (4m)) ≤ x / 65536`. -/
def angleAtMost (m x k : Nat) : Bool :=
  sineAtMost ((2 * (k : Int) - 1) * (piNum : Int)) (4 * (m : Int) * (piDen : Int)) (x : Int)

/-- Bisection for the largest k in [low, high) that passes, given that `low` counts as passing: `steps` halvings. -/
def bisect (pass : Nat → Bool) : Nat → Nat → Nat → Nat
  | 0, low, _ => low
  | steps + 1, low, high =>
    if high ≤ low + 1 then low
    else if pass ((low + high) / 2) then bisect pass steps ((low + high) / 2) high
    else bisect pass steps low ((low + high) / 2)

/-- `round_away(arcsin(x / 65536) · m / (π/2))` for 0 ≤ x ≤ 65536 and 0 < m < 2^32. -/
def arcsineMagnitude (m x : Nat) : Nat :=
  bisect (angleAtMost m x) 33 0 (m + 1)

/-- `round_away(arcsin(xq / 65536) · m / (π/2))` for −65536 ≤ xq ≤ 65536: the arcsine is odd and so is the rounding. -/
def arcsineScaled (m : Nat) (xq : Int) : Int :=
  if xq < 0 then -(arcsineMagnitude m (-xq).toNat : Int) else (arcsineMagnitude m xq.toNat : Int)

/-- `Asin_N(xq)`, for N ≥ 2 (44_trig.md R123). -/
def asinAngle (n : Nat) (xq : Int) : Int :=
  arcsineScaled (2 ^ (n - 1) - 1) xq

/-- `Acos_N(xq)`, for N ≥ 2 (44_trig.md R124): arccos x = π/2 − arcsin x, and π/2 is the integer 2^(N−2) on this scale. -/
def acosAngle (n : Nat) (xq : Int) : Int :=
  ((2 ^ (n - 2) : Nat) : Int) - arcsineScaled (2 ^ (n - 2)) xq

/-- ASIN: arcsine of the operand read as a ratio, 0 for N < 2 (44_trig.md R125). -/
def execAsin (t : Ty) (a : Word) (s : State) : StepResult :=
  perform t (.ok (if width t < 2 then 0 else asinAngle (width t) (ratioQ16 t (val t a)))) s

/-- ACOS: arccosine of the operand read as a ratio, 0 for N < 2 (44_trig.md R126). -/
def execAcos (t : Ty) (a : Word) (s : State) : StepResult :=
  perform t (.ok (if width t < 2 then 0 else acosAngle (width t) (ratioQ16 t (val t a)))) s

end Sys2Proof.Machine
end

