-- ==== Sys2Proof/Machine/Dispatch.lean ====
section
/-! DEFINITION. One arm per instruction, each one call of its meaning. `exec i s` is the completion of the command `i`: the
response it writes into the latch of `s`. -/

namespace Sys2Proof.Machine

def exec (i : Instr) (s : State) : Host.Outcome State Fault Refusal :=
  match i with
  | .fromraw t a => Sys2Proof.Machine.execFromraw t a s
  | .fromint t a => Sys2Proof.Machine.execFromint t a s
  | .fromf32 t a => Sys2Proof.Machine.execFromf32 t a s
  | .fromf64 t a b => Sys2Proof.Machine.execFromf64 t a b s
  | .add t a b => Sys2Proof.Machine.execAdd t a b s
  | .sub t a b => Sys2Proof.Machine.execSub t a b s
  | .mul t a b => Sys2Proof.Machine.execMul t a b s
  | .div t a b => Sys2Proof.Machine.execDiv t a b s
  | .mod t a b => Sys2Proof.Machine.execMod t a b s
  | .addsat t a b => Sys2Proof.Machine.execAddsat t a b s
  | .subsat t a b => Sys2Proof.Machine.execSubsat t a b s
  | .mulsat t a b => Sys2Proof.Machine.execMulsat t a b s
  | .mulpow2 t a b => Sys2Proof.Machine.execMulpow2 t a b s
  | .divpow2 t a b => Sys2Proof.Machine.execDivpow2 t a b s
  | .modpow2 t a b => Sys2Proof.Machine.execModpow2 t a b s
  | .band t a b => Sys2Proof.Machine.execAnd t a b s
  | .bor t a b => Sys2Proof.Machine.execOr t a b s
  | .bxor t a b => Sys2Proof.Machine.execXor t a b s
  | .bnot t a => Sys2Proof.Machine.execNot t a s
  | .shl t a b => Sys2Proof.Machine.execShl t a b s
  | .shr t a b => Sys2Proof.Machine.execShr t a b s
  | .rol t a b => Sys2Proof.Machine.execRol t a b s
  | .ror t a b => Sys2Proof.Machine.execRor t a b s
  | .eq t a b => Sys2Proof.Machine.execEq t a b s
  | .ne t a b => Sys2Proof.Machine.execNe t a b s
  | .lt t a b => Sys2Proof.Machine.execLt t a b s
  | .le t a b => Sys2Proof.Machine.execLe t a b s
  | .gt t a b => Sys2Proof.Machine.execGt t a b s
  | .ge t a b => Sys2Proof.Machine.execGe t a b s
  | .min t a b => Sys2Proof.Machine.execMin t a b s
  | .max t a b => Sys2Proof.Machine.execMax t a b s
  | .avg t a b => Sys2Proof.Machine.execAvg t a b s
  | .sign t a => Sys2Proof.Machine.execSign t a s
  | .abs t a => Sys2Proof.Machine.execAbs t a s
  | .neg t a => Sys2Proof.Machine.execNeg t a s
  | .copysign t a b => Sys2Proof.Machine.execCopysign t a b s
  | .rev t a => Sys2Proof.Machine.execRev t a s
  | .popcnt t a => Sys2Proof.Machine.execPopcnt t a s
  | .parity t a => Sys2Proof.Machine.execParity t a s
  | .clz t a => Sys2Proof.Machine.execClz t a s
  | .ctz t a => Sys2Proof.Machine.execCtz t a s
  | .bsr t a => Sys2Proof.Machine.execBsr t a s
  | .bsf t a => Sys2Proof.Machine.execBsf t a s
  | .zero t => Sys2Proof.Machine.execZero t s
  | .one t => Sys2Proof.Machine.execOne t s
  | .lsb t => Sys2Proof.Machine.execLsb t s
  | .half t => Sys2Proof.Machine.execHalf t s
  | .allones t => Sys2Proof.Machine.execAllones t s
  | .msb t => Sys2Proof.Machine.execMsb t s
  | .minval t => Sys2Proof.Machine.execMinval t s
  | .maxval t => Sys2Proof.Machine.execMaxval t s
  | .bit t a => Sys2Proof.Machine.execBit t a s
  | .fraction t a b => Sys2Proof.Machine.execFraction t a b s
  | .tobytes t a => Sys2Proof.Machine.execTobytes t a s
  | .frombytes t a b => Sys2Proof.Machine.execFrombytes t a b s
  | .getbyte t a b => Sys2Proof.Machine.execGetbyte t a b s
  | .setbyte t a b => Sys2Proof.Machine.execSetbyte t a b s
  | .convert t a b => Sys2Proof.Machine.execConvert t a b s
  | .convfrac t a b => Sys2Proof.Machine.execConvfrac t a b s
  | .sin t a => Sys2Proof.Machine.execSin t a s
  | .cos t a => Sys2Proof.Machine.execCos t a s
  | .tan t a => Sys2Proof.Machine.execTan t a s
  | .asin t a => Sys2Proof.Machine.execAsin t a s
  | .acos t a => Sys2Proof.Machine.execAcos t a s

end Sys2Proof.Machine
end

