-- ==== Sys2Proof/Machine/Complete.lean ====
section
/-! DEFINITION. Completing a command: it is decoded and performed. A command word the decoder rejects raises IllegalCommand
(30_encoding.md R46; 60_exceptions.md R135). -/

namespace Sys2Proof.Machine

/-- Complete a command: the response of the instruction it decodes to, or IllegalCommand. -/
def completeCommand (c : Command) (s : State) : StepResult :=
  match decode c with
  | .ok i => exec i s
  | .error _ => .next (s.raise .illegalCommand)

end Sys2Proof.Machine
end

