-- ==== Sys2Proof/Machine/Control.lean ====
section
/-! DEFINITION. The command sequencer, one cycle at a time: accepting a command, waiting out its latency, completing it, idling,
and reset (70_reset_and_hazards.md R144 to R147). -/

namespace Sys2Proof.Machine

/-- A reset cycle: the latch cleared and "any command in progress discarded" (70_reset_and_hazards.md R144). -/
def State.clear (s : State) : State :=
  { s with rvalid := false, r := 0, err := 0, inProgress := none }

/-- The OP field of a command word (30_encoding.md R37). -/
def opField (w : Word) : Nat :=
  (w.extractLsb' 0 7).toNat

/-- The N field of a command word (30_encoding.md R37). -/
def widthField (w : Word) : Nat :=
  (w.extractLsb' 10 6).toNat

/-- Accepting a command: "On accepting a command it clears RVALID" (70_reset_and_hazards.md R147). R and ERR keep the previous
response (93_implementation_defined.md item 16; log entry 10). -/
def State.accept (s : State) (c : Command) : State :=
  { s with
    rvalid := false
    inProgress := some ⟨c, Config.extraLatency (opField c.cmd) (widthField c.cmd)⟩ }

/-- The inputs after a cycle in which the unit is busy: a command the host presents waits for the unit to be ready
(70_reset_and_hazards.md R147; log entry 12), anything else passes by.

DESIGN CHOICE (log entry 12): the waiting command stays at the head, so a `.reset` entry behind it acts only after the unit has
accepted that command. Whether reset can act while the host holds a command that is not yet taken, R144 leaves open; a host that
gives the command up for a reset is written as `.idle` entries and then `.reset (some c)`. -/
def waitInputs : List HostInput → List HostInput
  | [] => []
  | .issue c :: rest => .issue c :: rest
  | .idle :: rest => rest
  | .reset _ :: rest => rest

/-- What a cycle does. -/
inductive Cycle
  /-- no command completes: the state after the cycle -/
  | quiet (s : State)
  /-- this command completes, its response to be written into this state -/
  | complete (c : Command) (s : State)
  deriving DecidableEq, Repr

/-- A cycle in which the unit is busy with `p`. -/
def busyCycle (s : State) (p : InProgress) : Cycle :=
  match p.remaining with
  | 0 => .complete p.command { s with inProgress := none, inputs := waitInputs s.inputs }
  | k + 1 => .quiet { s with inProgress := some ⟨p.command, k⟩, inputs := waitInputs s.inputs }

/-- A cycle in which the unit has no command in progress: it accepts a command the host presents, and else "is idle and holds its
last response" (60_exceptions.md R143). -/
def readyCycle (s : State) : Cycle :=
  match s.inputs with
  | .issue c :: rest => .quiet ({ s with inputs := rest }.accept c)
  | _ :: rest => .quiet { s with inputs := rest }
  | [] => .quiet s

/-- One cycle. Reset wins: a command in progress, and one issued during reset, is "discarded without a response"
(70_reset_and_hazards.md R144, R145). -/
def cycle (s : State) : Cycle :=
  match s.inputs with
  | .reset _ :: rest => .quiet { s with inputs := rest }.clear
  | _ =>
    match s.inProgress with
    | some p => busyCycle s p
    | none => readyCycle s

/-- The inputs before the first cycle that is not a reset cycle are dropped: what is left does not discard the command. -/
def skipResets : List HostInput → List HostInput
  | .reset _ :: rest => skipResets rest
  | inputs => inputs

/-- A state about to complete this command in its next cycle, whatever came before: the command has been accepted (so RVALID is
0), its latency has passed, and the host does not assert reset. -/
def State.withCommand (s : State) (c : Command) : State :=
  { s with
    rvalid := false
    inProgress := some ⟨c, 0⟩
    inputs := skipResets s.inputs }

end Sys2Proof.Machine
end

