-- ==== Sys2Proof/Machine/Step.lean ====
section
/-! DEFINITION. One step is one cycle (Machine/Control.lean); the command that completes in it, if any, is decoded and performed
(Machine/Complete.lean). -/

namespace Sys2Proof.Machine

/-- One cycle of the unit. It always answers a next state: an error is a response (60_exceptions.md R138), and with nothing to
do the unit idles (R143). -/
def step (s : State) : Host.Outcome State Fault Refusal :=
  match cycle s with
  | .quiet s' => .next s'
  | .complete c s' => completeCommand c s'

/-- The state whose next step performs the command with these bits (see `commandOfBits`); the unit has no program memory to
store it in, so it is placed where a command waits to complete (log entry 5). -/
def State.withFetchWord (s : State) (nbits w : Nat) : State :=
  s.withCommand (commandOfBits (w % 2 ^ nbits))

end Sys2Proof.Machine
end

