-- ==== Sys2Proof/Safety.lean ====
section
/-! DEFINITION. What counts as a sound state of the unit, in the terms claims use (10_state.md R24, 60_exceptions.md R128, R130,
and log entry 2). -/

namespace Sys2Proof.Machine

/-- The latch is sound: ERR is never 6 or 7 (R24, R128); while RVALID is 1, a response that is an error has R = 0 (R130); and
RVALID is 0 while a command is in progress, on a unit that is not pipelined (70_reset_and_hazards.md R147 leaves that open; log
entry 2). -/
def State.latchSound (s : State) : Prop :=
  s.err.toNat ≤ 5 ∧ (s.rvalid = true → s.err ≠ 0 → s.r = 0) ∧ (s.inProgress ≠ none → s.rvalid = false)

/-- `k` cycles from a state, stopping at a fault or a refusal (no step answers one): `Host.Core.run` of this machine, over its own
state type. -/
def runCycles : Nat → State → StepResult
  | 0, s => .next s
  | k + 1, s =>
    match step s with
    | .next s' => runCycles k s'
    | .fault r => .fault r
    | .refused r => .refused r

end Sys2Proof.Machine
end

