-- ==== Sys2Proof/Certificates/Slice0/Obligations.lean ====
section
/-! DEFINITION. The statements for the provers. `s.respond v` is the response (R = v mod 2^32, ERR = 0) written into the latch
of `s` with nothing else changed, and `s.raise e` the error response (`RespondAndRaiseWriteOnlyTheLatch`). A type `t` carries
the width N = `t.n.toNat` and the fraction width F = `t.f.toNat`; `val t x` is an operand word read as a value. -/

open Sys2Proof Sys2Proof.Machine

/-! ### Encoding -/

/-- 30_encoding.md R37, R38, R41, R42: decoding the words the encoder writes gives the instruction back, for every type field
and operand; the only restriction is R42's, that CONVFRAC carries a fixed-point kind. -/
def Obligations.DecodeOfEncodeGivesTheInstruction : Prop :=
  ∀ i : Instr, i.definedForKind = true → decode (encode i) = .ok i

/-- 30_encoding.md R37, R43: a decoded instruction encodes to the command word it was decoded from, and to the operand words but
for the unused ones, which are 0 (R47). -/
def Obligations.DecodedCommandIsTheEncodersCommand : Prop :=
  ∀ (c : Command) (i : Instr), decode c = .ok i →
    (encode i).cmd = c.cmd ∧ ((encode i).a = c.a ∨ (encode i).a = 0) ∧ ((encode i).b = c.b ∨ (encode i).b = 0) ∧
      decode (encode i) = .ok i

/-- 60_exceptions.md R135 for command words, with 30_encoding.md R39, R41, R42: exactly the words with a reserved bit set, with
an unassigned OP, or with CONVFRAC on SI or UI are rejected, and completing such a command raises IllegalCommand. -/
def Obligations.ExactlyTheIllegalCommandWordsRaiseIllegalCommand : Prop :=
  ∀ (c : Command) (s : State),
    let op := c.cmd.toNat % 2 ^ 7
    let illegal := c.cmd.toNat / 2 ^ 7 % 2 ≠ 0 ∨ c.cmd.toNat / 2 ^ 22 ≠ 0 ∨
      op = 0x00 ∨ (0x05 ≤ op ∧ op ≤ 0x07) ∨ op = 0x13 ∨ (0x1C ≤ op ∧ op ≤ 0x1F) ∨ (0x26 ≤ op ∧ op ≤ 0x27) ∨ op = 0x2F ∨
      op = 0x37 ∨ (0x42 ≤ op ∧ op ≤ 0x43) ∨ (0x4A ≤ op ∧ op ≤ 0x4F) ∨ 0x55 ≤ op ∨
      (op = 0x49 ∧ c.cmd.toNat / 2 ^ 9 % 2 = 0)
    (illegal → completeCommand c s = .next (s.raise .illegalCommand)) ∧
      (¬illegal → ∃ i, decode c = .ok i ∧ completeCommand c s = exec i s)

/-- 30_encoding.md R47: the example words of the spec decode to the commands it writes beside them. -/
def Obligations.ExampleWordsOfTheSpecDecode : Prop :=
  decode ⟨0x00004008, 0x00007FFF, 0x00000001⟩ = .ok (.add ⟨.si, 16, 0⟩ 0x7FFF 1) ∧
  decode ⟨0x0008420A, 0x00000100, 0x00000100⟩ = .ok (.mul ⟨.fx, 16, 8⟩ 0x100 0x100) ∧
  decode ⟨0x00003150, 0x00000400, 0x00000000⟩ = .ok (.sin ⟨.ui, 12, 0⟩ 0x400) ∧
  decode ⟨0x00084248, 0x00000180, 0x00002000⟩ = .ok (.convert ⟨.fx, 16, 8⟩ 0x180 0x2000) ∧
  tyOfWord 0x00002000 = ⟨.si, 8, 0⟩

/-! ### The unit as a machine: steps, latch, reset, latency -/

/-- A step runs the decoded instruction: when the command in progress has no cycle left and the host does not assert reset, the
step is `exec` of the decoded instruction on the state with that command taken out and the inputs one cycle on. That a command
the host presents meanwhile waits is the model's choice (log entry 12). -/
def Obligations.StepRunsTheDecodedInstruction : Prop :=
  ∀ (s : State) (c : Command) (i : Instr), s.inProgress = some ⟨c, 0⟩ → (∀ o rest, s.inputs ≠ .reset o :: rest) →
    decode c = .ok i →
    step s = exec i { s with inProgress := none, inputs := waitInputs s.inputs } ∧
      (∀ c' rest, s.inputs = .issue c' :: rest → waitInputs s.inputs = s.inputs) ∧
      (∀ rest, s.inputs = .idle :: rest → waitInputs s.inputs = rest)

/-- 60_exceptions.md R128, R129, R130: what a response and an error response write, with the five error codes, and that nothing
else changes. -/
def Obligations.RespondAndRaiseWriteOnlyTheLatch : Prop :=
  ∀ (s : State) (v : Int),
    s.respond v = { s with rvalid := true, r := BitVec.ofInt 32 v, err := 0 } ∧
    s.raise .format = { s with rvalid := true, r := 0, err := 1 } ∧
    s.raise .range = { s with rvalid := true, r := 0, err := 2 } ∧
    s.raise .divideByZero = { s with rvalid := true, r := 0, err := 3 } ∧
    s.raise .unsupportedWidth = { s with rvalid := true, r := 0, err := 4 } ∧
    s.raise .illegalCommand = { s with rvalid := true, r := 0, err := 5 }

/-- 70_reset_and_hazards.md R144: the values reset leaves, a sound latch among them. The empty input stream is the model's own
(log entry 5) and not stated. -/
def Obligations.ResetStateHoldsNoResponse : Prop :=
  State.reset.rvalid = false ∧ State.reset.r = 0 ∧ State.reset.err = 0 ∧ State.reset.inProgress = none ∧
    State.reset.latchSound

/-- 70_reset_and_hazards.md R144, R145: a reset cycle clears the latch, discards a command in progress at whatever point it is,
and discards a command issued during reset; no response follows from either. That reset comes as an input of one cycle is the
model's choice (log entry 11). -/
def Obligations.ResetCycleDiscardsEverything : Prop :=
  ∀ (s : State) (issued : Option Command) (rest : List HostInput), s.inputs = .reset issued :: rest →
    step s = .next { rvalid := false, r := 0, err := 0, inProgress := none, inputs := rest }

/-- 70_reset_and_hazards.md R147: a ready unit takes the command the host presents and clears RVALID; that R and ERR stay is the
model's choice (log entry 10). -/
def Obligations.AcceptingACommandClearsRvalid : Prop :=
  ∀ (s : State) (c : Command) (rest : List HostInput), s.inProgress = none → s.inputs = .issue c :: rest →
    ∃ remaining, step s =
      .next { s with rvalid := false, inProgress := some ⟨c, remaining⟩, inputs := rest }

/-- 60_exceptions.md R143: "Between commands the unit is idle and holds its last response." That an exhausted input list is an
idle host is the model's choice (log entry 5). -/
def Obligations.IdleUnitHoldsItsLastResponse : Prop :=
  ∀ (s : State), s.inProgress = none →
    (s.inputs = [] → step s = .next s) ∧
      (∀ rest, s.inputs = .idle :: rest → step s = .next { s with inputs := rest })

/-- Every step answers a next state: an error is a response and stops nothing (60_exceptions.md R130, R138, R139). -/
def Obligations.EveryStepAnswersANextState : Prop :=
  ∀ s : State, ∃ s', step s = .next s'

/-- 70_reset_and_hazards.md R146, R147, for a host that meanwhile presents nothing more or holds its next command: the command at
the inputs is completed in exactly LATENCY(op) cycles after the cycle that accepts it, RVALID is 0 and R and ERR unchanged in
every cycle between, and what the host presents next is still there (so responses come in issue order, 20_memory.md R32). That R
and ERR keep their values meanwhile, that a presented command waits, and that the unit is not pipelined are the model's choices
(log entries 10, 12, 2). -/
def Obligations.ResponseAppearsLatencyCyclesAfterAcceptance : Prop :=
  ∀ (s : State) (c : Command) (rest : List HostInput), s.inProgress = none → s.inputs = .issue c :: rest →
    (rest = [] ∨ ∃ c' rest', rest = .issue c' :: rest') →
    let latency := Config.extraLatency (c.cmd.toNat % 2 ^ 7) (c.cmd.toNat / 2 ^ 10 % 2 ^ 6) + 1
    (∀ k, k < latency → ∃ s' : State, runCycles (1 + k) s = .next s' ∧
        s'.rvalid = false ∧ s'.r = s.r ∧ s'.err = s.err ∧ s'.inputs = rest) ∧
      runCycles (1 + latency) s =
        completeCommand c { s with rvalid := false, inProgress := none, inputs := rest }

/-- 10_state.md R23: the response is a function of the command alone, and (20_memory.md R31) nothing but the response latch
changes: the frame of all 64 instructions at once, and of a command that is not decoded. -/
def Obligations.ResponseDependsOnTheCommandAlone : Prop :=
  ∃ response : Instr → Word × BitVec 3,
    (∀ (i : Instr) (s : State),
      exec i s = .next { s with rvalid := true, r := (response i).1, err := (response i).2 }) ∧
    ∀ (c : Command) (s : State),
      (∀ i, decode c = .ok i →
        completeCommand c s = .next { s with rvalid := true, r := (response i).1, err := (response i).2 }) ∧
      ((∀ i, decode c ≠ .ok i) → completeCommand c s = .next { s with rvalid := true, r := 0, err := 5 })

/-- 60_exceptions.md R139: a command completes the same whether or not the previous response was an error, and whatever the
previous response was. -/
def Obligations.PreviousResponseDoesNotAffectACommand : Prop :=
  ∀ (c : Command) (s : State) (e : UnitError) (v : Int),
    completeCommand c (s.raise e) = completeCommand c s ∧ completeCommand c (s.respond v) = completeCommand c s

/-- Every step from a sound state leaves a sound state: ERR is at most 5 (10_state.md R24, 60_exceptions.md R128), and while RVALID
is 1 an error response has R = 0 (R130). That RVALID is 0 for as long as a command is in progress is the model's choice (log
entry 2: the unit is not pipelined): 70_reset_and_hazards.md R147 says that accepting a command clears RVALID, but lets a pipelined
unit complete an earlier command, and so set it, while a later one is in progress. -/
def Obligations.EveryStepKeepsTheLatchSound : Prop :=
  ∀ s s' : State, s.latchSound → step s = .next s' → s'.latchSound

/-! ### The type check -/

/-- 30_encoding.md R40: on an illegal type every command raises UnsupportedWidthError, whatever its operands, so before any check
of its own (R46). -/
def Obligations.IllegalTypeRaisesUnsupportedWidth : Prop :=
  ∀ (i : Instr) (s : State), i.definedForKind = true →
    (¬ (i.ty.n.toNat ≤ 32 ∧
      ((i.ty.kind = .si ∨ i.ty.kind = .ui) → i.ty.f.toNat = 0) ∧
      ((i.ty.kind = .fx ∨ i.ty.kind = .ufx) → i.ty.f.toNat ≤ i.ty.n.toNat))) →
    exec i s = .next (s.raise .unsupportedWidth)

/-! ### Values -/

/-- 10_state.md R11, R15: `wrap` gives the one canonical value of the type that is congruent to v modulo 2^N. -/
def Obligations.WrapIsTheCongruentCanonicalValue : Prop :=
  ∀ (t : Ty) (v : Int), t.wellFormed = true →
    canonical t (wrap t v) = true ∧ (2 : Int) ^ t.n.toNat ∣ wrap t v - v ∧
      ∀ w : Int, canonical t w = true → (2 : Int) ^ t.n.toNat ∣ w - v → w = wrap t v

/-- 10_state.md R13: an operand word that holds a canonical value is read as that value, and bits N and above are ignored. -/
def Obligations.CanonicalOperandIsReadBack : Prop :=
  ∀ (t : Ty) (v : Int) (x y : Word), t.wellFormed = true →
    (canonical t v = true → val t (word v) = v) ∧
      (x.toNat % 2 ^ t.n.toNat = y.toNat % 2 ^ t.n.toNat → val t x = val t y)

/-- 10_state.md R9: `sext_N` is the two's-complement reading of the low N bits, and −1 for N = 0. -/
def Obligations.SignExtensionIsTheTwosComplementReading : Prop :=
  ∀ (n : Nat) (v : Int), sext n v = if n = 0 then -1 else (BitVec.ofInt n v).toInt

/-! ### Construction -/

/-- 40_construct_arith.md R49, R50. -/
def Obligations.FromrawAndFromintResults : Prop :=
  ∀ (t : Ty) (a b : Word) (s : State), t.wellFormed = true →
    decode ⟨cmdWord 0x01 t, a, b⟩ = .ok (.fromraw t a) ∧
    exec (.fromraw t a) s = .next (s.respond (wrap t a.toNat)) ∧
    decode ⟨cmdWord 0x02 t, a, b⟩ = .ok (.fromint t a) ∧
    exec (.fromint t a) s = .next (s.respond (wrap t (a.toInt * 2 ^ t.f.toNat)))

/-- 40_construct_arith.md R52, R53, with the conversion of R51: NaN, the infinities and a rounded value outside the signed 64-bit
range give 0, and every other datum its wrapped rounded value, under the tie rule this unit has, whichever that is. -/
def Obligations.FloatConstructionResults : Prop :=
  ∀ (t : Ty) (a b : Word) (s : State), t.wellFormed = true →
    let value : FloatDatum → Int := fun x =>
      match x with
      | .nan => wrap t 0
      | .infinite _ => wrap t 0
      | .finite negative m e =>
        if -2 ^ 63 ≤ scaleAndRound Config.floatRoundTies negative m (e + t.f.toNat) ∧
            scaleAndRound Config.floatRoundTies negative m (e + t.f.toNat) ≤ 2 ^ 63 - 1 then
          wrap t (scaleAndRound Config.floatRoundTies negative m (e + t.f.toNat))
        else wrap t 0
    decode ⟨cmdWord 0x03 t, a, b⟩ = .ok (.fromf32 t a) ∧
    exec (.fromf32 t a) s = .next (s.respond (value (binary32 a))) ∧
    decode ⟨cmdWord 0x04 t, a, b⟩ = .ok (.fromf64 t a b) ∧
    exec (.fromf64 t a b) s = .next (s.respond (value (binary64 a b)))

/-- 40_construct_arith.md R52, R53: the binary32 and binary64 layouts, field by field, as IEEE 754 has them; the spec marks the
values of the special exponents as taken from outside the source (log entry 13). -/
def Obligations.FloatLayoutsAreIEEE : Prop :=
  (∀ (sign : BitVec 1) (e : BitVec 8) (m : BitVec 23),
    binary32 (sign ++ e ++ m) =
      if e.toNat = 255 then (if m = 0 then .infinite (sign == 1) else .nan)
      else if e.toNat = 0 then .finite (sign == 1) m.toNat (-149)
      else .finite (sign == 1) (2 ^ 23 + m.toNat) ((e.toNat : Int) - 150)) ∧
  (∀ (sign : BitVec 1) (e : BitVec 11) (m : BitVec 52) (a b : Word), b ++ a = (sign ++ e ++ m : BitVec 64) →
    binary64 a b =
      if e.toNat = 2047 then (if m = 0 then .infinite (sign == 1) else .nan)
      else if e.toNat = 0 then .finite (sign == 1) m.toNat (-1074)
      else .finite (sign == 1) (2 ^ 52 + m.toNat) ((e.toNat : Int) - 1075))

/-- 40_construct_arith.md R51, the rounding: the nearest integer to the exact rational, and at a tie the one the rule names. -/
def Obligations.FloatRoundingIsToNearest : Prop :=
  ∀ (rule : TieRule) (negative : Bool) (m : Nat) (e : Int),
    let x : ℚ := (if negative then -1 else 1) * m * 2 ^ e
    let n := scaleAndRound rule negative m e
    |(n : ℚ) - x| ≤ 1 / 2 ∧
      (|(n : ℚ) - x| = 1 / 2 → (rule = .even → n % 2 = 0) ∧ (rule = .away → |x| < |(n : ℚ)|))

/-! ### Arithmetic -/

/-- 40_construct_arith.md R54, R55, R56. -/
def Obligations.AddSubMulResults : Prop :=
  ∀ (t : Ty) (a b : Word) (s : State), t.wellFormed = true →
    decode ⟨cmdWord 0x08 t, a, b⟩ = .ok (.add t a b) ∧
    exec (.add t a b) s = .next (s.respond (wrap t (val t a + val t b))) ∧
    decode ⟨cmdWord 0x09 t, a, b⟩ = .ok (.sub t a b) ∧
    exec (.sub t a b) s = .next (s.respond (wrap t (val t a - val t b))) ∧
    decode ⟨cmdWord 0x0A t, a, b⟩ = .ok (.mul t a b) ∧
    exec (.mul t a b) s = .next (s.respond (wrap t (val t a * val t b / 2 ^ t.f.toNat)))

/-- 40_construct_arith.md R57, R58; 60_exceptions.md R133 for these two. -/
def Obligations.DivModResults : Prop :=
  ∀ (t : Ty) (a b : Word) (s : State), t.wellFormed = true →
    decode ⟨cmdWord 0x0B t, a, b⟩ = .ok (.div t a b) ∧
    decode ⟨cmdWord 0x0C t, a, b⟩ = .ok (.mod t a b) ∧
    (val t b ≠ 0 →
      exec (.div t a b) s = .next (s.respond (wrap t ((val t a * 2 ^ t.f.toNat).tdiv (val t b)))) ∧
      exec (.mod t a b) s = .next (s.respond (wrap t ((val t a).tmod (val t b))))) ∧
    (val t b = 0 →
      exec (.div t a b) s = .next (s.raise .divideByZero) ∧ exec (.mod t a b) s = .next (s.raise .divideByZero))

/-- 40_construct_arith.md R57, R62: signedMin(N) DIV −1 wraps to signedMin(N) on SI, and signedMin(N) MOD −1 is 0, at every width
from 1 to 32, with no error. -/
def Obligations.SignedMinDividedByMinusOneWraps : Prop :=
  ∀ (n : BitVec 6) (a b : Word) (s : State), 1 ≤ n.toNat → n.toNat ≤ 32 → val ⟨.si, n, 0⟩ a = -2 ^ (n.toNat - 1) →
    val ⟨.si, n, 0⟩ b = -1 →
    exec (.div ⟨.si, n, 0⟩ a b) s = .next (s.respond (-2 ^ (n.toNat - 1))) ∧
      exec (.mod ⟨.si, n, 0⟩ a b) s = .next (s.respond 0)

/-- 40_construct_arith.md R62: for b ≠ 0 where the quotient does not wrap, a = DIV(a,b)·b + MOD(a,b) on SI and UI, the two
responses read as values. -/
def Obligations.DivAndModRecomposeTheDividend : Prop :=
  ∀ (t : Ty) (a b : Word) (s : State), t.wellFormed = true → (t.kind = .si ∨ t.kind = .ui) → val t b ≠ 0 →
    canonical t ((val t a).tdiv (val t b)) = true →
    ∃ q r : State, exec (.div t a b) s = .next q ∧ exec (.mod t a b) s = .next r ∧ q.err = 0 ∧ r.err = 0 ∧
      val t a = val t q.r * val t b + val t r.r

/-- 40_construct_arith.md R59, R60, R61: the exact result clamped to the canonical range, with no wrap. -/
def Obligations.SaturatingResultsAreClamped : Prop :=
  ∀ (t : Ty) (a b : Word) (s : State), t.wellFormed = true →
    decode ⟨cmdWord 0x0D t, a, b⟩ = .ok (.addsat t a b) ∧
    exec (.addsat t a b) s = .next (s.respond (max (lo t) (min (hi t) (val t a + val t b)))) ∧
    decode ⟨cmdWord 0x0E t, a, b⟩ = .ok (.subsat t a b) ∧
    exec (.subsat t a b) s = .next (s.respond (max (lo t) (min (hi t) (val t a - val t b)))) ∧
    decode ⟨cmdWord 0x0F t, a, b⟩ = .ok (.mulsat t a b) ∧
    exec (.mulsat t a b) s = .next (s.respond (max (lo t) (min (hi t) (val t a * val t b / 2 ^ t.f.toNat))))

/-! ### Power of two, logic, shifts and rotates -/

/-- 41_shift_rotate.md R63, R64, R65; the window of 60_exceptions.md R132 for these three. -/
def Obligations.PowerOfTwoResults : Prop :=
  ∀ (t : Ty) (a b : Word) (s : State), t.wellFormed = true →
    decode ⟨cmdWord 0x10 t, a, b⟩ = .ok (.mulpow2 t a b) ∧
    decode ⟨cmdWord 0x11 t, a, b⟩ = .ok (.divpow2 t a b) ∧
    decode ⟨cmdWord 0x12 t, a, b⟩ = .ok (.modpow2 t a b) ∧
    (∀ k : Nat, b.toInt = k → k ≤ t.n.toNat →
      exec (.mulpow2 t a b) s = .next (s.respond (wrap t (val t a * 2 ^ k))) ∧
      exec (.divpow2 t a b) s = .next (s.respond (wrap t (val t a / 2 ^ k))) ∧
      exec (.modpow2 t a b) s = .next (s.respond (wrap t (val t a % 2 ^ k)))) ∧
    (b.toInt < 0 ∨ (t.n.toNat : Int) < b.toInt →
      exec (.mulpow2 t a b) s = .next (s.raise .range) ∧ exec (.divpow2 t a b) s = .next (s.raise .range) ∧
      exec (.modpow2 t a b) s = .next (s.raise .range))

/-- 41_shift_rotate.md R66, R67, R68, R69: the canonical value whose N bits are the operation on the operands' bits. -/
def Obligations.LogicResultsBitByBit : Prop :=
  ∀ (t : Ty) (a b : Word) (s : State), t.wellFormed = true →
    decode ⟨cmdWord 0x14 t, a, b⟩ = .ok (.band t a b) ∧
    decode ⟨cmdWord 0x15 t, a, b⟩ = .ok (.bor t a b) ∧
    decode ⟨cmdWord 0x16 t, a, b⟩ = .ok (.bxor t a b) ∧
    decode ⟨cmdWord 0x17 t, a, b⟩ = .ok (.bnot t a) ∧
    (∃ v, exec (.band t a b) s = .next (s.respond v) ∧ canonical t v = true ∧
      ∀ i < t.n.toNat, (word v).getLsbD i = (a.getLsbD i && b.getLsbD i)) ∧
    (∃ v, exec (.bor t a b) s = .next (s.respond v) ∧ canonical t v = true ∧
      ∀ i < t.n.toNat, (word v).getLsbD i = (a.getLsbD i || b.getLsbD i)) ∧
    (∃ v, exec (.bxor t a b) s = .next (s.respond v) ∧ canonical t v = true ∧
      ∀ i < t.n.toNat, (word v).getLsbD i = (a.getLsbD i ^^ b.getLsbD i)) ∧
    (∃ v, exec (.bnot t a) s = .next (s.respond v) ∧ canonical t v = true ∧
      ∀ i < t.n.toNat, (word v).getLsbD i = !(a.getLsbD i))

/-- 41_shift_rotate.md R70, R71; the window of 60_exceptions.md R132 for these two. -/
def Obligations.ShiftResults : Prop :=
  ∀ (t : Ty) (a b : Word) (s : State), t.wellFormed = true →
    decode ⟨cmdWord 0x18 t, a, b⟩ = .ok (.shl t a b) ∧
    decode ⟨cmdWord 0x19 t, a, b⟩ = .ok (.shr t a b) ∧
    (∀ k : Nat, b.toInt = k → k < t.n.toNat →
      exec (.shl t a b) s = .next (s.respond (wrap t (val t a * 2 ^ k))) ∧
      exec (.shr t a b) s = .next (s.respond (wrap t (val t a / 2 ^ k)))) ∧
    (b.toInt < 0 ∨ (t.n.toNat : Int) ≤ b.toInt →
      exec (.shl t a b) s = .next (s.raise .range) ∧ exec (.shr t a b) s = .next (s.raise .range))

/-- 41_shift_rotate.md R72, and R73 but for its inverse law, which is `RotatesAreInverse`: bit i goes to bit (i + k) mod N, or comes
from it; a negative amount is a RangeError; at N = 0 the only value is returned. -/
def Obligations.RotateResultsBitByBit : Prop :=
  ∀ (t : Ty) (a b : Word) (s : State), t.wellFormed = true →
    decode ⟨cmdWord 0x1A t, a, b⟩ = .ok (.rol t a b) ∧
    decode ⟨cmdWord 0x1B t, a, b⟩ = .ok (.ror t a b) ∧
    (∀ k : Nat, b.toInt = k →
      (∃ v, exec (.rol t a b) s = .next (s.respond v) ∧ canonical t v = true ∧
        ∀ i < t.n.toNat, (word v).getLsbD ((i + k) % t.n.toNat) = a.getLsbD i) ∧
      (∃ v, exec (.ror t a b) s = .next (s.respond v) ∧ canonical t v = true ∧
        ∀ i < t.n.toNat, (word v).getLsbD i = a.getLsbD ((i + k) % t.n.toNat))) ∧
    (b.toInt < 0 → exec (.rol t a b) s = .next (s.raise .range) ∧ exec (.ror t a b) s = .next (s.raise .range))

/-- 41_shift_rotate.md R73, "Rotate inverse": rotating a response back by the same amount gives the value, both ways round. -/
def Obligations.RotatesAreInverse : Prop :=
  ∀ (t : Ty) (a k : Word) (s : State), t.wellFormed = true → 0 ≤ k.toInt →
    ∃ p q : State, exec (.rol t a k) s = .next p ∧ exec (.ror t p.r k) s = .next (s.respond (val t a)) ∧
      exec (.ror t a k) s = .next q ∧ exec (.rol t q.r k) s = .next (s.respond (val t a))

/-! ### Comparisons and utility operations -/

/-- 42_compare_utility_bits.md R74 to R80. -/
def Obligations.ComparisonResults : Prop :=
  ∀ (t : Ty) (a b : Word) (s : State), t.wellFormed = true →
    decode ⟨cmdWord 0x20 t, a, b⟩ = .ok (.eq t a b) ∧
    exec (.eq t a b) s = .next (s.respond (if val t a = val t b then 1 else 0)) ∧
    decode ⟨cmdWord 0x21 t, a, b⟩ = .ok (.ne t a b) ∧
    exec (.ne t a b) s = .next (s.respond (if val t a = val t b then 0 else 1)) ∧
    decode ⟨cmdWord 0x22 t, a, b⟩ = .ok (.lt t a b) ∧
    exec (.lt t a b) s = .next (s.respond (if val t a < val t b then 1 else 0)) ∧
    decode ⟨cmdWord 0x23 t, a, b⟩ = .ok (.le t a b) ∧
    exec (.le t a b) s = .next (s.respond (if val t b < val t a then 0 else 1)) ∧
    decode ⟨cmdWord 0x24 t, a, b⟩ = .ok (.gt t a b) ∧
    exec (.gt t a b) s = .next (s.respond (if val t b < val t a then 1 else 0)) ∧
    decode ⟨cmdWord 0x25 t, a, b⟩ = .ok (.ge t a b) ∧
    exec (.ge t a b) s = .next (s.respond (if val t a < val t b then 0 else 1))

/-- 42_compare_utility_bits.md R81 to R87. -/
def Obligations.UtilityResults : Prop :=
  ∀ (t : Ty) (a b : Word) (s : State), t.wellFormed = true →
    decode ⟨cmdWord 0x28 t, a, b⟩ = .ok (.min t a b) ∧
    exec (.min t a b) s = .next (s.respond (min (val t a) (val t b))) ∧
    decode ⟨cmdWord 0x29 t, a, b⟩ = .ok (.max t a b) ∧
    exec (.max t a b) s = .next (s.respond (max (val t a) (val t b))) ∧
    decode ⟨cmdWord 0x2A t, a, b⟩ = .ok (.avg t a b) ∧
    exec (.avg t a b) s = .next (s.respond (wrap t ((wrap t (val t a + val t b)).tdiv 2))) ∧
    decode ⟨cmdWord 0x2B t, a, b⟩ = .ok (.sign t a) ∧
    exec (.sign t a) s = .next (s.respond (wrap t ((val t a).sign *
      (if t.kind = .fx ∨ t.kind = .ufx then 2 ^ t.f.toNat else 1)))) ∧
    decode ⟨cmdWord 0x2C t, a, b⟩ = .ok (.abs t a) ∧
    exec (.abs t a) s = .next (s.respond (wrap t |val t a|)) ∧
    decode ⟨cmdWord 0x2D t, a, b⟩ = .ok (.neg t a) ∧
    exec (.neg t a) s = .next (s.respond (wrap t (-val t a))) ∧
    decode ⟨cmdWord 0x2E t, a, b⟩ = .ok (.copysign t a b) ∧
    exec (.copysign t a b) s = .next (s.respond (wrap t (if val t b < 0 then -|val t a| else |val t a|)))

/-- 42_compare_utility_bits.md R85, R86, R87: signedMin(N) is its own absolute value, negation and copy-sign, whatever the sign
copied. -/
def Obligations.SignedMinIsItsOwnMagnitude : Prop :=
  ∀ (t : Ty) (a b : Word) (s : State), t.wellFormed = true → (t.kind = .si ∨ t.kind = .fx) → 1 ≤ t.n.toNat →
    val t a = -2 ^ (t.n.toNat - 1) →
    exec (.abs t a) s = .next (s.respond (-2 ^ (t.n.toNat - 1))) ∧
      exec (.neg t a) s = .next (s.respond (-2 ^ (t.n.toNat - 1))) ∧
      exec (.copysign t a b) s = .next (s.respond (-2 ^ (t.n.toNat - 1)))

/-! ### Bit manipulation -/

/-- 42_compare_utility_bits.md R88: bit i moves to bit N−1−i, and REV(REV(a)) = a. -/
def Obligations.ReverseMirrorsTheBits : Prop :=
  ∀ (t : Ty) (a b : Word) (s : State), t.wellFormed = true →
    decode ⟨cmdWord 0x30 t, a, b⟩ = .ok (.rev t a) ∧
    ∃ v, exec (.rev t a) s = .next (s.respond v) ∧ canonical t v = true ∧
      (∀ i < t.n.toNat, (word v).getLsbD (t.n.toNat - 1 - i) = a.getLsbD i) ∧
      exec (.rev t (word v)) s = .next (s.respond (val t a))

/-- 42_compare_utility_bits.md R89, R90: the count of 1 bits among the N bits, and its parity. -/
def Obligations.PopulationCountAndParityResults : Prop :=
  ∀ (t : Ty) (a b : Word) (s : State), t.wellFormed = true →
    let ones := ((List.range t.n.toNat).filter (fun i => a.getLsbD i)).length
    decode ⟨cmdWord 0x31 t, a, b⟩ = .ok (.popcnt t a) ∧ exec (.popcnt t a) s = .next (s.respond ones) ∧
    decode ⟨cmdWord 0x32 t, a, b⟩ = .ok (.parity t a) ∧ exec (.parity t a) s = .next (s.respond ((ones % 2 : Nat) : Int))

/-- 42_compare_utility_bits.md R91 to R94, on a value with no 1 among its N bits. -/
def Obligations.BitScansOfZero : Prop :=
  ∀ (t : Ty) (a : Word) (s : State), t.wellFormed = true → (∀ i < t.n.toNat, a.getLsbD i = false) →
    exec (.clz t a) s = .next (s.respond t.n.toNat) ∧ exec (.ctz t a) s = .next (s.respond t.n.toNat) ∧
    exec (.bsr t a) s = .next (s.respond (-1)) ∧ exec (.bsf t a) s = .next (s.respond (-1))

/-- 42_compare_utility_bits.md R91 to R94, on a value whose highest 1 bit is h and whose lowest is l. -/
def Obligations.BitScansOfNonzero : Prop :=
  ∀ (t : Ty) (a b : Word) (s : State) (h l : Nat), t.wellFormed = true → h < t.n.toNat → a.getLsbD h = true →
    (∀ i, h < i → i < t.n.toNat → a.getLsbD i = false) → l < t.n.toNat → a.getLsbD l = true →
    (∀ i < l, a.getLsbD i = false) →
    decode ⟨cmdWord 0x33 t, a, b⟩ = .ok (.clz t a) ∧
    exec (.clz t a) s = .next (s.respond ((t.n.toNat : Int) - 1 - h)) ∧
    decode ⟨cmdWord 0x34 t, a, b⟩ = .ok (.ctz t a) ∧ exec (.ctz t a) s = .next (s.respond l) ∧
    decode ⟨cmdWord 0x35 t, a, b⟩ = .ok (.bsr t a) ∧ exec (.bsr t a) s = .next (s.respond h) ∧
    decode ⟨cmdWord 0x36 t, a, b⟩ = .ok (.bsf t a) ∧ exec (.bsf t a) s = .next (s.respond l)

/-! ### Constants -/

/-- 43_constants_bytes_qformat.md R96 to R101: each constant wrapped to the type, whatever the operand words. -/
def Obligations.ConstantResults : Prop :=
  ∀ (t : Ty) (a b : Word) (s : State), t.wellFormed = true →
    decode ⟨cmdWord 0x38 t, a, b⟩ = .ok (.zero t) ∧ exec (.zero t) s = .next (s.respond (wrap t 0)) ∧
    decode ⟨cmdWord 0x39 t, a, b⟩ = .ok (.one t) ∧
    exec (.one t) s = .next (s.respond (wrap t (if t.kind = .fx ∨ t.kind = .ufx then 2 ^ t.f.toNat else 1))) ∧
    decode ⟨cmdWord 0x3A t, a, b⟩ = .ok (.lsb t) ∧ exec (.lsb t) s = .next (s.respond (wrap t 1)) ∧
    decode ⟨cmdWord 0x3B t, a, b⟩ = .ok (.half t) ∧
    (t.kind = .ui → exec (.half t) s = .next (s.respond (wrap t ((2 ^ t.n.toNat - 1) / 2)))) ∧
    (t.kind = .si → exec (.half t) s =
      .next (s.respond (wrap t (if t.n.toNat = 0 then -1 else (2 ^ (t.n.toNat - 1) - 1) / 2)))) ∧
    (t.kind = .fx ∨ t.kind = .ufx → exec (.half t) s =
      .next (s.respond (if t.f.toNat = 0 then wrap t 0 else wrap t (2 ^ (t.f.toNat - 1))))) ∧
    decode ⟨cmdWord 0x3C t, a, b⟩ = .ok (.allones t) ∧
    exec (.allones t) s = .next (s.respond (wrap t (2 ^ t.n.toNat - 1))) ∧
    decode ⟨cmdWord 0x3D t, a, b⟩ = .ok (.msb t) ∧
    exec (.msb t) s = .next (s.respond (wrap t (if t.n.toNat = 0 then 0 else 2 ^ (t.n.toNat - 1))))

/-- 43_constants_bytes_qformat.md R102, R103: MINVAL and MAXVAL are the least and the greatest canonical value. -/
def Obligations.MinvalAndMaxvalAreTheExtremes : Prop :=
  ∀ (t : Ty) (a b : Word) (s : State), t.wellFormed = true →
    decode ⟨cmdWord 0x3E t, a, b⟩ = .ok (.minval t) ∧ decode ⟨cmdWord 0x3F t, a, b⟩ = .ok (.maxval t) ∧
    ∃ v w, exec (.minval t) s = .next (s.respond v) ∧ exec (.maxval t) s = .next (s.respond w) ∧
      (∃ x, val t x = v) ∧ (∃ x, val t x = w) ∧ ∀ x, v ≤ val t x ∧ val t x ≤ w

/-- 43_constants_bytes_qformat.md R104, R105. -/
def Obligations.BitAndFractionResults : Prop :=
  ∀ (t : Ty) (a b : Word) (s : State), t.wellFormed = true →
    decode ⟨cmdWord 0x40 t, a, b⟩ = .ok (.bit t a) ∧
    (∀ k : Nat, a.toInt = k → k < t.n.toNat → exec (.bit t a) s = .next (s.respond (wrap t (2 ^ k)))) ∧
    (a.toInt < 0 ∨ (t.n.toNat : Int) ≤ a.toInt → exec (.bit t a) s = .next (s.raise .range)) ∧
    decode ⟨cmdWord 0x41 t, a, b⟩ = .ok (.fraction t a b) ∧
    (b.toInt ≠ 0 → exec (.fraction t a b) s =
      .next (s.respond (wrap t ((a.toInt * 2 ^ t.f.toNat).tdiv b.toInt)))) ∧
    (b.toInt = 0 → exec (.fraction t a b) s = .next (s.raise .divideByZero))

/-! ### Byte access -/

/-- 43_constants_bytes_qformat.md R106, R108, and R107 but for its round trip, which is `FrombytesUndoesTobytes`; L = ceil(N/8). -/
def Obligations.ByteImageResults : Prop :=
  ∀ (t : Ty) (a b : Word) (s : State), t.wellFormed = true →
    let bytes := (t.n.toNat + 7) / 8
    decode ⟨cmdWord 0x44 t, a, b⟩ = .ok (.tobytes t a) ∧
    exec (.tobytes t a) s = .next (s.respond ((a.toNat % 2 ^ t.n.toNat : Nat) : Int)) ∧
    decode ⟨cmdWord 0x45 t, a, b⟩ = .ok (.frombytes t a b) ∧
    (b.toInt = bytes → exec (.frombytes t a b) s = .next (s.respond (wrap t ((a.toNat % 2 ^ (8 * bytes) : Nat) : Int)))) ∧
    (b.toInt ≠ bytes → exec (.frombytes t a b) s = .next (s.raise .format)) ∧
    decode ⟨cmdWord 0x46 t, a, b⟩ = .ok (.getbyte t a b) ∧
    (∀ i : Nat, b.toInt = i → i < bytes →
      exec (.getbyte t a b) s = .next (s.respond ((a.toNat % 2 ^ t.n.toNat / 2 ^ (8 * i) % 256 : Nat) : Int))) ∧
    (b.toInt < 0 ∨ (bytes : Int) ≤ b.toInt → exec (.getbyte t a b) s = .next (s.raise .range))

/-- 43_constants_bytes_qformat.md R109: the canonical value whose bits are A's but for byte i, which is the new byte. -/
def Obligations.SetbyteResultsBitByBit : Prop :=
  ∀ (t : Ty) (a b : Word) (s : State), t.wellFormed = true →
    let bytes := (t.n.toNat + 7) / 8
    let index := (b.extractLsb' 8 24).toInt
    decode ⟨cmdWord 0x47 t, a, b⟩ = .ok (.setbyte t a b) ∧
    (∀ i : Nat, index = i → i < bytes →
      ∃ v, exec (.setbyte t a b) s = .next (s.respond v) ∧ canonical t v = true ∧
        ∀ j < t.n.toNat, (word v).getLsbD j =
          if 8 * i ≤ j ∧ j < 8 * i + 8 then b.getLsbD (j - 8 * i) else a.getLsbD j) ∧
    (index < 0 ∨ (bytes : Int) ≤ index → exec (.setbyte t a b) s = .next (s.raise .range))

/-- 43_constants_bytes_qformat.md R107, the round trip: TOBYTES followed by FROMBYTES with length L returns the value. -/
def Obligations.FrombytesUndoesTobytes : Prop :=
  ∀ (t : Ty) (a len : Word) (s : State), t.wellFormed = true → len.toNat = (t.n.toNat + 7) / 8 →
    ∃ p : State, exec (.tobytes t a) s = .next p ∧ exec (.frombytes t p.r len) s = .next (s.respond (val t a))

/-! ### The Q-format scaler -/

/-- 43_constants_bytes_qformat.md R110, 30_encoding.md R44: the checks of the descriptor in their order, and the rescale by the
difference of the fraction widths, a floor when it shrinks, wrapped to the target. -/
def Obligations.ConvertResults : Prop :=
  ∀ (t : Ty) (a b : Word) (s : State), t.wellFormed = true →
    decode ⟨cmdWord 0x48 t, a, b⟩ = .ok (.convert t a b) ∧
    (b.toNat % 2 ^ 8 ≠ 0 ∨ b.toNat / 2 ^ 22 ≠ 0 → exec (.convert t a b) s = .next (s.raise .illegalCommand)) ∧
    (∀ t' : Ty, b = descriptor t' →
      (t'.wellFormed = false → exec (.convert t a b) s = .next (s.raise .unsupportedWidth)) ∧
      (t'.wellFormed = true → ∀ d : Nat,
        (t'.f.toNat = t.f.toNat + d → exec (.convert t a b) s = .next (s.respond (wrap t' (val t a * 2 ^ d)))) ∧
        (t.f.toNat = t'.f.toNat + d → exec (.convert t a b) s = .next (s.respond (wrap t' (val t a / 2 ^ d))))))

/-- 43_constants_bytes_qformat.md R111, 30_encoding.md R42: IllegalCommand on SI and UI, UnsupportedWidthError outside 0..N, else
the result CONVERT gives for the type (K, N, g). -/
def Obligations.ConvfracIsConvertToTheNewFraction : Prop :=
  ∀ (t : Ty) (a b : Word) (s : State),
    ((t.kind = .si ∨ t.kind = .ui) → exec (.convfrac t a b) s = .next (s.raise .illegalCommand)) ∧
    ((t.kind = .fx ∨ t.kind = .ufx) → t.wellFormed = true →
      decode ⟨cmdWord 0x49 t, a, b⟩ = .ok (.convfrac t a b) ∧
      (b.toInt < 0 ∨ (t.n.toNat : Int) < b.toInt → exec (.convfrac t a b) s = .next (s.raise .unsupportedWidth)) ∧
      (∀ g : BitVec 6, b.toInt = g.toNat → g.toNat ≤ t.n.toNat →
        exec (.convfrac t a b) s = exec (.convert t a (descriptor ⟨t.kind, t.n, g⟩)) s ∧
        ∃ v, exec (.convfrac t a b) s = .next (s.respond v)))

/-! ### The trigonometric pipeline -/

/-- 10_state.md R17: entry i of the table is `sin(i/4096 · π/2) · 65536` rounded to the nearest integer. -/
def Obligations.TableEntriesAreRoundedSines : Prop :=
  ∀ i : Nat, i ≤ 4095 → (lut i : Int) = round (Real.sin ((i : ℝ) / 4096 * (Real.pi / 2)) * 65536)

/-- 10_state.md R17: the table is non-decreasing, from 0 to 65536, and its last ten entries are 65536. -/
def Obligations.TableIsNonDecreasing : Prop :=
  lut 0 = 0 ∧ (∀ i, 4086 ≤ i → i ≤ 4095 → lut i = 65536) ∧ ∀ i j, i ≤ j → j ≤ 4095 → lut i ≤ lut j ∧ lut j ≤ 65536

/-- 44_trig.md R119, the source's six steps for 2 ≤ N ≤ 14: quadrant from the top 2 bits, index from the others rescaled to 12,
mirrored in quadrants 1 and 3, negated in 2 and 3. The kind, F and the bits above N do not matter. -/
def Obligations.SinFollowsTheSixSteps : Prop :=
  ∀ (t : Ty) (a : Word) (s : State), t.wellFormed = true → 2 ≤ t.n.toNat → t.n.toNat ≤ 14 →
    let phase := a.toNat % 2 ^ t.n.toNat
    let quadrant := phase / 2 ^ (t.n.toNat - 2)
    let index := phase % 2 ^ (t.n.toNat - 2) * 2 ^ (14 - t.n.toNat)
    let mirrored := if quadrant = 1 ∨ quadrant = 3 then 4095 - index else index
    exec (.sin t a) s = .next (s.respond (if quadrant < 2 then (lut mirrored : Int) else -(lut mirrored : Int)))

/-- 44_trig.md R117 for SIN in the mode this hardware takes (LINEAR, 00_scope.md R4; log entry 4): between the responses SIN gives
at the two adjacent 14-bit phases, floored. -/
def Obligations.SinInterpolatesAboveFourteenBits : Prop :=
  ∀ (t : Ty) (a b : Word) (s : State), t.wellFormed = true → 14 < t.n.toNat →
    let d := t.n.toNat - 14
    let phase := a.toNat % 2 ^ t.n.toNat
    let point := phase / 2 ^ d
    decode ⟨cmdWord 0x50 t, a, b⟩ = .ok (.sin t a) ∧
    ∃ y0 y1 : Int, -65536 ≤ y0 ∧ y0 ≤ 65536 ∧ -65536 ≤ y1 ∧ y1 ≤ 65536 ∧
      exec (.sin ⟨.ui, 14, 0⟩ (BitVec.ofNat 32 point)) s = .next (s.respond y0) ∧
      exec (.sin ⟨.ui, 14, 0⟩ (BitVec.ofNat 32 ((point + 1) % 2 ^ 14))) s = .next (s.respond y1) ∧
      exec (.sin t a) s =
        .next (s.respond (y0 + ⌊((y1 - y0) * (phase % 2 ^ d : Nat) : ℚ) / 2 ^ d⌋))

/-- 44_trig.md R120: COS is SIN a quarter turn on, for N ≥ 2. -/
def Obligations.CosIsSinAQuarterTurnOn : Prop :=
  ∀ (t : Ty) (a a' b : Word) (s : State), t.wellFormed = true → 2 ≤ t.n.toNat →
    a'.toNat % 2 ^ t.n.toNat = (a.toNat + 2 ^ (t.n.toNat - 2)) % 2 ^ t.n.toNat →
    decode ⟨cmdWord 0x51 t, a, b⟩ = .ok (.cos t a) ∧
    exec (.cos t a) s = exec (.sin t a') s ∧ ∃ v, -65536 ≤ v ∧ v ≤ 65536 ∧ exec (.cos t a) s = .next (s.respond v)

/-- 44_trig.md R119, R120 at N = 0 and N = 1: the phase at the top of the 14 bits. -/
def Obligations.SinAndCosBelowTwoBits : Prop :=
  ∀ (t : Ty) (a : Word) (s : State), t.wellFormed = true →
    (t.n.toNat < 2 → exec (.sin t a) s = .next (s.respond 0)) ∧
    (t.n.toNat = 0 → exec (.cos t a) s = .next (s.respond 65536)) ∧
    (t.n.toNat = 1 → exec (.cos t a) s = .next (s.respond (if a.getLsbD 0 then -65536 else 65536)))

/-- 44_trig.md R121: the tangent from the amplitudes SIN and COS respond with: the quotient truncated toward zero and clamped, and
the sentinel by the sign of the sine when the cosine is 0. -/
def Obligations.TanResults : Prop :=
  ∀ (t : Ty) (a b : Word) (s : State), t.wellFormed = true →
    decode ⟨cmdWord 0x52 t, a, b⟩ = .ok (.tan t a) ∧
    ∃ x y : Int, -65536 ≤ x ∧ x ≤ 65536 ∧ -65536 ≤ y ∧ y ≤ 65536 ∧
      exec (.sin t a) s = .next (s.respond x) ∧ exec (.cos t a) s = .next (s.respond y) ∧
      exec (.tan t a) s = .next (s.respond
        (if y = 0 then (if x < 0 then -(2 ^ 31 - 1) else 2 ^ 31 - 1)
         else max (-(2 ^ 31 - 1)) (min (2 ^ 31 - 1) ((x * 2 ^ 16).tdiv y)))) ∧
      (y = 0 → x ≠ 0)

/-- 44_trig.md R122: `xq` is the clamped ratio times 65536, rounded to the nearest integer with ties away from zero. -/
def Obligations.RatioIsRoundedToTheGrid : Prop :=
  ∀ (t : Ty) (v : Int), t.wellFormed = true → 2 ≤ t.n.toNat → canonical t v = true →
    let m : ℚ := 2 ^ t.n.toNat - 1
    let x : ℚ := match t.kind with
      | .si => v / (2 ^ (t.n.toNat - 1) - 1)
      | .fx => v / 2 ^ t.f.toNat
      | .ui | .ufx => (2 * v - m) / m
    let y : ℚ := max (-1) (min 1 x) * 65536
    |(ratioQ16 t v : ℚ) - y| ≤ 1 / 2 ∧ (|(ratioQ16 t v : ℚ) - y| = 1 / 2 → |y| < |(ratioQ16 t v : ℚ)|)

/-- 44_trig.md R125, R126: the results of ASIN and ACOS, 0 for N < 2, and their ranges: [−(2^(N−1) − 1), 2^(N−1) − 1] and
[0, 2^(N−1)]. -/
def Obligations.AsinAndAcosResults : Prop :=
  ∀ (t : Ty) (a b : Word) (s : State), t.wellFormed = true →
    decode ⟨cmdWord 0x53 t, a, b⟩ = .ok (.asin t a) ∧ decode ⟨cmdWord 0x54 t, a, b⟩ = .ok (.acos t a) ∧
    (t.n.toNat < 2 → exec (.asin t a) s = .next (s.respond 0) ∧ exec (.acos t a) s = .next (s.respond 0)) ∧
    (2 ≤ t.n.toNat →
      exec (.asin t a) s = .next (s.respond (asinAngle t.n.toNat (ratioQ16 t (val t a)))) ∧
      exec (.acos t a) s = .next (s.respond (acosAngle t.n.toNat (ratioQ16 t (val t a)))) ∧
      |asinAngle t.n.toNat (ratioQ16 t (val t a))| ≤ 2 ^ (t.n.toNat - 1) - 1 ∧
      0 ≤ acosAngle t.n.toNat (ratioQ16 t (val t a)) ∧
      acosAngle t.n.toNat (ratioQ16 t (val t a)) ≤ 2 ^ (t.n.toNat - 1))

/-- 44_trig.md R123: the arcsine map is the exact real value scaled to the signed angle range, to within a rounding and one
ten-millionth. With the spec's own computation that no scaled value is closer to a half-integer than 2.27·10^−7
(93_implementation_defined.md G3), this is the rounded exact value; the evaluation is the model's (log entry 6). -/
def Obligations.AsinAngleIsTheRealArcsine : Prop :=
  ∀ (n : Nat) (xq : Int), 2 ≤ n → n ≤ 32 → -65536 ≤ xq → xq ≤ 65536 →
    |(asinAngle n xq : ℝ) - Real.arcsin ((xq : ℝ) / 65536) * (2 ^ (n - 1) - 1) / (Real.pi / 2)| ≤ 1 / 2 + 1 / 10 ^ 7

/-- 44_trig.md R124: the arccosine map is the exact real value scaled to the unsigned angle range, to within a rounding and one
ten-millionth (see `AsinAngleIsTheRealArcsine`; log entry 6). -/
def Obligations.AcosAngleIsTheRealArccosine : Prop :=
  ∀ (n : Nat) (xq : Int), 2 ≤ n → n ≤ 32 → -65536 ≤ xq → xq ≤ 65536 →
    |(acosAngle n xq : ℝ) - Real.arccos ((xq : ℝ) / 65536) * 2 ^ (n - 1) / Real.pi| ≤ 1 / 2 + 1 / 10 ^ 7

/-- 44_trig.md R125, R126: "Asin is a hard monotone-non-decreasing invariant across its whole domain", and ACOS is non-increasing,
in the operand's value, for every kind and width from 2. -/
def Obligations.AsinIsMonotoneAndAcosAntitone : Prop :=
  ∀ (t : Ty) (a b : Word), t.wellFormed = true → 2 ≤ t.n.toNat → val t a ≤ val t b →
    asinAngle t.n.toNat (ratioQ16 t (val t a)) ≤ asinAngle t.n.toNat (ratioQ16 t (val t b)) ∧
      acosAngle t.n.toNat (ratioQ16 t (val t b)) ≤ acosAngle t.n.toNat (ratioQ16 t (val t a))
end

