-- ==== Sys2Proof/Laws/Bits.lean ====
section
/-! SUPPORT. What the bit-level helpers of the shifter and of the bit manipulation do, bit by bit, once each. -/

namespace Sys2Proof.Machine

theorem testBit_of_le {n p x : Nat} (hp : p < 2 ^ n) (hx : n ≤ x) : p.testBit x = false :=
  Nat.testBit_lt_two_pow (hp.trans_le (Nat.pow_le_pow_right (by norm_num) hx))

/-- Bit i of an N-bit pattern goes to bit (i + j) mod N of its rotation left by j (41_shift_rotate.md R72). -/
theorem rotateLeft_testBit {n p j i : Nat} (hj : j < n) (hp : p < 2 ^ n) (hi : i < n) :
    (rotateLeft n p j).testBit ((i + j) % n) = p.testBit i := by
  have hlt := Nat.mod_lt (i + j) (show 0 < n by omega)
  rw [rotateLeft, mask, ← Nat.shiftLeft_eq, ← Nat.shiftRight_eq_div_pow, Nat.testBit_and, Nat.testBit_or,
    Nat.testBit_shiftLeft, Nat.testBit_shiftRight, Nat.testBit_two_pow_sub_one]
  simp only [hlt, decide_true, Bool.and_true]
  by_cases hc : i + j < n
  · rw [Nat.mod_eq_of_lt hc, testBit_of_le hp (show n ≤ n - j + (i + j) by omega)]
    simp
  · have hm : (i + j) % n = i + j - n := by rw [Nat.mod_eq_sub_mod (by omega), Nat.mod_eq_of_lt (by omega)]
    have h1 : ¬j ≤ i + j - n := by omega
    rw [hm]
    simp only [h1, decide_false, Bool.false_and, Bool.false_or]
    congr 1
    omega

/-- Bit i of the rotation right by j is bit (i + j) mod N of the N-bit pattern (41_shift_rotate.md R73). -/
theorem rotateRight_testBit {n p j i : Nat} (hj : j < n) (hp : p < 2 ^ n) (hi : i < n) :
    (rotateRight n p j).testBit i = p.testBit ((i + j) % n) := by
  rw [rotateRight, mask, ← Nat.shiftLeft_eq, ← Nat.shiftRight_eq_div_pow, Nat.testBit_and, Nat.testBit_or,
    Nat.testBit_shiftLeft, Nat.testBit_shiftRight, Nat.testBit_two_pow_sub_one]
  simp only [hi, decide_true, Bool.and_true]
  by_cases hc : i + j < n
  · have h1 : ¬n - j ≤ i := by omega
    rw [Nat.mod_eq_of_lt hc]
    simp only [h1, decide_false, Bool.false_and, Bool.or_false]
    congr 1
    omega
  · have hm : (i + j) % n = i + j - n := by rw [Nat.mod_eq_sub_mod (by omega), Nat.mod_eq_of_lt (by omega)]
    have h1 : n - j ≤ i := by omega
    rw [hm, testBit_of_le hp (show n ≤ j + i by omega)]
    simp only [h1, decide_true, Bool.true_and, Bool.false_or]
    congr 1
    omega

theorem reverseBits_lt (n p : Nat) : reverseBits n p < 2 ^ n := by
  induction n generalizing p with
  | zero => simp [reverseBits]
  | succ n ih =>
    have h := ih (p / 2)
    have h2 := Nat.mod_lt p (show 0 < 2 by norm_num)
    have h3 : p % 2 * 2 ^ n ≤ 1 * 2 ^ n := Nat.mul_le_mul_right _ (by omega)
    rw [reverseBits, pow_succ]
    omega

/-- Bit i of a pattern moves to bit N−1−i (42_compare_utility_bits.md R88). -/
theorem reverseBits_testBit {n i : Nat} (p : Nat) (hi : i < n) :
    (reverseBits n p).testBit (n - 1 - i) = p.testBit i := by
  induction n generalizing p i with
  | zero => omega
  | succ n ih =>
    rw [reverseBits, Nat.mul_comm, Nat.testBit_two_pow_mul_add _ (reverseBits_lt n _)]
    cases i with
    | zero =>
      simp only [Nat.add_sub_cancel, Nat.sub_zero, Nat.lt_irrefl, if_false, Nat.sub_self, Nat.testBit_zero]
      simp
    | succ i =>
      have h1 : n + 1 - 1 - (i + 1) = n - 1 - i := by omega
      have h2 : n - 1 - i < n := by omega
      rw [h1, if_pos h2, ih (p / 2) (by omega), Nat.testBit_succ]

/-- The lowest 1 bit: it is 1, and every bit below it is 0 (42_compare_utility_bits.md R92). -/
theorem lowestBit_spec {n p : Nat} (h : ∃ i < n, p.testBit i = true) :
    lowestBit n p < n ∧ p.testBit (lowestBit n p) = true ∧ ∀ i < lowestBit n p, p.testBit i = false := by
  induction n generalizing p with
  | zero => obtain ⟨i, hi, -⟩ := h; omega
  | succ n ih =>
    rw [lowestBit]
    split
    · rename_i h1
      exact ⟨by omega, by simp [Nat.testBit_zero, h1], by omega⟩
    · rename_i h1
      have h0 : p.testBit 0 = false := by simp [Nat.testBit_zero, h1]
      obtain ⟨i, hi, hb⟩ := h
      cases i with
      | zero => rw [h0] at hb; cases hb
      | succ i =>
        rw [Nat.testBit_succ] at hb
        obtain ⟨a, b, c⟩ := ih ⟨i, by omega, hb⟩
        refine ⟨by omega, by rw [Nat.add_comm, Nat.testBit_succ]; exact b, fun j hj => ?_⟩
        cases j with
        | zero => exact h0
        | succ j => rw [Nat.testBit_succ]; exact c j (by omega)

/-- The highest 1 bit: it is 1, and every bit above it is 0 (42_compare_utility_bits.md R91). -/
theorem highestBit_spec {p : Nat} (h : p ≠ 0) :
    p.testBit (highestBit p) = true ∧ ∀ i, highestBit p < i → p.testBit i = false := by
  rw [highestBit]
  refine ⟨Nat.testBit_log2 h, fun i hi => Nat.testBit_lt_two_pow ?_⟩
  exact Nat.lt_log2_self.trans_le (Nat.pow_le_pow_right (by norm_num) hi)

/-- The number of 1 bits is at most N (42_compare_utility_bits.md R89). -/
theorem popcount_le (n p : Nat) : popcount n p ≤ n := by
  induction n generalizing p with
  | zero => exact Nat.le_refl _
  | succ n ih =>
    have h := ih (p / 2)
    have h2 := Nat.mod_lt p (show 0 < 2 by norm_num)
    rw [popcount]
    omega

end Sys2Proof.Machine
end

