-- ==== Sys2Proof/Laws/Operands.lean ====
section
/-! SUPPORT. What wrapping, sign extension and the rounding operations do, once each. -/

namespace Sys2Proof.Machine

@[simp] theorem width_eq (t : Ty) : width t = t.n.toNat := rfl

@[simp] theorem frac_eq (t : Ty) : frac t = t.f.toNat := rfl

theorem two_pow_pos (n : Nat) : (0 : Int) < ((2 ^ n : Nat) : Int) := by
  exact_mod_cast Nat.two_pow_pos n

/-- `zext_N(v)` is the number in 0..2^N − 1 congruent to v (10_state.md R10). -/
theorem zext_spec (n : Nat) (v : Int) :
    0 ≤ zext n v ∧ zext n v < ((2 ^ n : Nat) : Int) ∧ ((2 ^ n : Nat) : Int) ∣ zext n v - v := by
  have hp := two_pow_pos n
  refine ⟨Int.emod_nonneg _ hp.ne', Int.emod_lt_of_pos _ hp, ?_⟩
  exact (dvd_sub_comm).mp (Int.dvd_self_sub_emod)

/-- A number in 0..2^N − 1 congruent to v is `zext_N(v)`. -/
theorem zext_unique {n : Nat} {v w : Int} (h0 : 0 ≤ w) (h1 : w < ((2 ^ n : Nat) : Int))
    (hd : ((2 ^ n : Nat) : Int) ∣ w - v) : w = zext n v := by
  have h : w % ((2 ^ n : Nat) : Int) = v % ((2 ^ n : Nat) : Int) := (Int.modEq_iff_dvd.mpr hd).symm
  rw [zext, ← h, Int.emod_eq_of_lt h0 h1]

@[simp] theorem sext_zero (v : Int) : sext 0 v = -1 := rfl

theorem two_pow_succ_cast (n : Nat) : ((2 ^ (n + 1) : Nat) : Int) = 2 * ((2 ^ n : Nat) : Int) := by
  push_cast
  ring

/-- `sext_N(v)` for N ≥ 1 is the number in −2^(N−1)..2^(N−1) − 1 congruent to v (10_state.md R9). -/
theorem sext_spec (n : Nat) (v : Int) :
    -((2 ^ n : Nat) : Int) ≤ sext (n + 1) v ∧ sext (n + 1) v < ((2 ^ n : Nat) : Int) ∧
      ((2 ^ (n + 1) : Nat) : Int) ∣ sext (n + 1) v - v := by
  obtain ⟨h0, h1, hd⟩ := zext_spec (n + 1) v
  have h2 := two_pow_succ_cast n
  simp only [sext, Nat.add_one_ne_zero, if_false, Nat.add_sub_cancel]
  split
  · refine ⟨by omega, by omega, ?_⟩
    have : zext (n + 1) v - ((2 ^ (n + 1) : Nat) : Int) - v = zext (n + 1) v - v - ((2 ^ (n + 1) : Nat) : Int) := by ring
    rw [this]
    exact Int.dvd_sub hd (dvd_refl _)
  · exact ⟨by omega, by omega, hd⟩

/-- The type check of the unit is the well-formedness of the type (30_encoding.md R40). -/
@[simp] theorem typeLegal_eq_wellFormed (t : Ty) : typeLegal t = t.wellFormed := by
  obtain ⟨k, n, f⟩ := t
  rw [Bool.eq_iff_iff]
  cases k <;>
    simp only [typeLegal, Ty.wellFormed, Kind.isFixed, Bool.and_eq_true, decide_eq_true_eq, beq_iff_eq, BitVec.toNat_eq] <;>
    simp

/-- The four answers of the clamp (00_scope.md section 5), for bounds in order. -/
theorem clamp_spec {v l h : Int} (hlh : l ≤ h) :
    l ≤ clamp v l h ∧ clamp v l h ≤ h ∧ (l ≤ v → v ≤ h → clamp v l h = v) ∧
      (v < l → clamp v l h = l) ∧ (h < v → clamp v l h = h) := by
  unfold clamp
  split
  · exact ⟨le_refl _, hlh, by omega, fun _ => rfl, by omega⟩
  · split <;> refine ⟨by omega, by omega, by omega, by omega, by omega⟩

/-- A target descriptor is accepted exactly when its reserved bits are 0 and its type is legal, and its rejections come in that
order (30_encoding.md R44, R46). -/
theorem targetType_cases (b : Word) :
    (targetType b = .error .illegalCommand ∧ ¬(b.extractLsb' 0 8 = 0 ∧ b.extractLsb' 22 10 = 0)) ∨
      ((b.extractLsb' 0 8 = 0 ∧ b.extractLsb' 22 10 = 0) ∧
        ((targetType b = .error .unsupportedWidth ∧ (tyOfWord b).wellFormed = false) ∨
          (targetType b = .ok (tyOfWord b) ∧ (tyOfWord b).wellFormed = true))) := by
  unfold targetType
  split
  · rename_i h
    refine .inr ⟨h, ?_⟩
    rw [typeLegal_eq_wellFormed]
    split <;> simp_all
  · rename_i h
    exact .inl ⟨rfl, h⟩

end Sys2Proof.Machine
end

