-- ==== Sys2Proof/Laws/State.lean ====
section
/-! SUPPORT. What each state update leaves in each field: one lemma per field per update, so that no proof unfolds one. -/

namespace Sys2Proof.Machine

@[simp] theorem State.respond_rvalid (s : State) (v : Int) :
    (s.respond v).rvalid = true := rfl

@[simp] theorem State.respond_r (s : State) (v : Int) :
    (s.respond v).r = word v := rfl

@[simp] theorem State.respond_err (s : State) (v : Int) :
    (s.respond v).err = 0 := rfl

@[simp] theorem State.respond_inProgress (s : State) (v : Int) :
    (s.respond v).inProgress = s.inProgress := rfl

@[simp] theorem State.respond_inputs (s : State) (v : Int) :
    (s.respond v).inputs = s.inputs := rfl

@[simp] theorem State.raise_rvalid (s : State) (e : UnitError) :
    (s.raise e).rvalid = true := rfl

@[simp] theorem State.raise_r (s : State) (e : UnitError) :
    (s.raise e).r = 0 := rfl

@[simp] theorem State.raise_err (s : State) (e : UnitError) :
    (s.raise e).err = e.code := rfl

@[simp] theorem State.raise_inProgress (s : State) (e : UnitError) :
    (s.raise e).inProgress = s.inProgress := rfl

@[simp] theorem State.raise_inputs (s : State) (e : UnitError) :
    (s.raise e).inputs = s.inputs := rfl

@[simp] theorem State.clear_rvalid (s : State) :
    (s.clear).rvalid = false := rfl

@[simp] theorem State.clear_r (s : State) :
    (s.clear).r = 0 := rfl

@[simp] theorem State.clear_err (s : State) :
    (s.clear).err = 0 := rfl

@[simp] theorem State.clear_inProgress (s : State) :
    (s.clear).inProgress = none := rfl

@[simp] theorem State.clear_inputs (s : State) :
    (s.clear).inputs = s.inputs := rfl

@[simp] theorem State.accept_rvalid (s : State) (c : Command) :
    (s.accept c).rvalid = false := rfl

@[simp] theorem State.accept_r (s : State) (c : Command) :
    (s.accept c).r = s.r := rfl

@[simp] theorem State.accept_err (s : State) (c : Command) :
    (s.accept c).err = s.err := rfl

@[simp] theorem State.accept_inProgress (s : State) (c : Command) :
    (s.accept c).inProgress = some ⟨c, Config.extraLatency (opField c.cmd) (widthField c.cmd)⟩ := rfl

@[simp] theorem State.accept_inputs (s : State) (c : Command) :
    (s.accept c).inputs = s.inputs := rfl

@[simp] theorem State.withCommand_rvalid (s : State) (c : Command) :
    (s.withCommand c).rvalid = false := rfl

@[simp] theorem State.withCommand_r (s : State) (c : Command) :
    (s.withCommand c).r = s.r := rfl

@[simp] theorem State.withCommand_err (s : State) (c : Command) :
    (s.withCommand c).err = s.err := rfl

@[simp] theorem State.withCommand_inProgress (s : State) (c : Command) :
    (s.withCommand c).inProgress = some ⟨c, 0⟩ := rfl

@[simp] theorem State.withCommand_inputs (s : State) (c : Command) :
    (s.withCommand c).inputs = skipResets s.inputs := rfl

@[simp] theorem State.deliver_ok (s : State) (v : Int) : s.deliver (.ok v) = s.respond v := rfl

@[simp] theorem State.deliver_error (s : State) (e : UnitError) : s.deliver (.error e) = s.raise e := rfl

/-- A response overwrites the latch, so the response before it leaves no trace (60_exceptions.md R130, R139). -/
@[simp] theorem State.respond_deliver (s : State) (result : Result) (v : Int) :
    (s.deliver result).respond v = s.respond v := by
  cases result <;> rfl

@[simp] theorem State.raise_deliver (s : State) (result : Result) (e : UnitError) :
    (s.deliver result).raise e = s.raise e := by
  cases result <;> rfl

end Sys2Proof.Machine
end

