-- ==== Sys2Proof/Laws/Ops.lean ====
section
/-! SUPPORT. What each shared operation can do, once each: a proof cites these and does not unfold the operation. -/

namespace Sys2Proof.Machine

/-- Performing an operation on a legal type delivers its result (30_encoding.md R46, check 4). -/
theorem perform_legal {t : Ty} (h : t.wellFormed = true) (result : Result) (s : State) :
    perform t result s = .next (s.deliver result) := by
  simp [perform, h]

/-- Performing an operation on an illegal type raises UnsupportedWidthError (30_encoding.md R46, check 3). -/
theorem perform_illegal {t : Ty} (h : t.wellFormed = false) (result : Result) (s : State) :
    perform t result s = .next (s.raise .unsupportedWidth) := by
  simp [perform, h]

/-- Everything `perform` can do: deliver the result, or raise UnsupportedWidthError; always a next state. -/
theorem perform_cases (t : Ty) (result : Result) (s : State) :
    (t.wellFormed = true ∧ perform t result s = .next (s.deliver result)) ∨
      (t.wellFormed = false ∧ perform t result s = .next (s.raise .unsupportedWidth)) := by
  cases h : t.wellFormed
  · exact .inr ⟨rfl, perform_illegal h result s⟩
  · exact .inl ⟨rfl, perform_legal h result s⟩

@[simp] theorem inWindow_true (v : Int) : inWindow true v = .ok v := rfl

@[simp] theorem inWindow_false (v : Int) : inWindow false v = .error .range := rfl

@[simp] theorem nonZero_zero (v : Int) : nonZero 0 v = .error .divideByZero := rfl

theorem nonZero_of_ne {d : Int} (h : d ≠ 0) (v : Int) : nonZero d v = .ok v := by
  simp [nonZero, h]

/-- A delivered response: RVALID is 1, ERR is a code of the table, and an error has R = 0 (60_exceptions.md R128 to R130). -/
theorem deliver_spec (s : State) (result : Result) :
    (s.deliver result).rvalid = true ∧ (s.deliver result).err.toNat ≤ 5 ∧
      ((s.deliver result).err ≠ 0 → (s.deliver result).r = 0) ∧
      (s.deliver result).inProgress = s.inProgress ∧ (s.deliver result).inputs = s.inputs := by
  cases result with
  | ok v => simp
  | error e => cases e <;> simp [UnitError.code]

/-- Everything a busy cycle can do: complete the command, or count one cycle down. -/
theorem busyCycle_cases (s : State) (p : InProgress) :
    (p.remaining = 0 ∧
        busyCycle s p = .complete p.command { s with inProgress := none, inputs := waitInputs s.inputs }) ∨
      (∃ k, p.remaining = k + 1 ∧
        busyCycle s p = .quiet { s with inProgress := some ⟨p.command, k⟩, inputs := waitInputs s.inputs }) := by
  unfold busyCycle
  cases h : p.remaining with
  | zero => exact .inl ⟨rfl, rfl⟩
  | succ k => exact .inr ⟨k, rfl, rfl⟩

/-- Everything a ready cycle can do: accept the presented command, or pass one input, or stay. -/
theorem readyCycle_cases (s : State) :
    (∃ c rest, s.inputs = .issue c :: rest ∧ readyCycle s = .quiet ({ s with inputs := rest }.accept c)) ∨
      (∃ x rest, (∀ c, x ≠ .issue c) ∧ s.inputs = x :: rest ∧ readyCycle s = .quiet { s with inputs := rest }) ∨
      (s.inputs = [] ∧ readyCycle s = .quiet s) := by
  unfold readyCycle
  rcases h : s.inputs with _ | ⟨x, rest⟩
  · exact .inr (.inr ⟨rfl, rfl⟩)
  · cases x with
    | issue c => exact .inl ⟨c, rest, rfl, rfl⟩
    | idle => exact .inr (.inl ⟨.idle, rest, by simp, rfl, rfl⟩)
    | reset o => exact .inr (.inl ⟨.reset o, rest, by simp, rfl, rfl⟩)

/-- Everything a cycle can do: reset, a busy cycle, or a ready cycle, in that order. -/
theorem cycle_cases (s : State) :
    (∃ o rest, s.inputs = .reset o :: rest ∧ cycle s = .quiet { s with inputs := rest }.clear) ∨
      ((∀ o rest, s.inputs ≠ .reset o :: rest) ∧
        ((∃ p, s.inProgress = some p ∧ cycle s = busyCycle s p) ∨ (s.inProgress = none ∧ cycle s = readyCycle s))) := by
  unfold cycle
  rcases h : s.inputs with _ | ⟨x, rest⟩
  · refine .inr ⟨by simp, ?_⟩
    cases hp : s.inProgress with
    | none => exact .inr ⟨rfl, rfl⟩
    | some p => exact .inl ⟨p, rfl, rfl⟩
  · cases x with
    | reset o => exact .inl ⟨o, rest, rfl, rfl⟩
    | _ =>
      refine .inr ⟨by simp, ?_⟩
      cases hp : s.inProgress with
      | none => exact .inr ⟨rfl, rfl⟩
      | some p => exact .inl ⟨p, rfl, rfl⟩

@[simp] theorem waitInputs_nil : waitInputs [] = [] := rfl

@[simp] theorem waitInputs_issue (c : Command) (rest : List HostInput) :
    waitInputs (.issue c :: rest) = .issue c :: rest := rfl

@[simp] theorem waitInputs_idle (rest : List HostInput) : waitInputs (.idle :: rest) = rest := rfl

/-- What is left after the leading reset cycles does not begin with one, and is a tail of what was there. -/
theorem skipResets_spec (inputs : List HostInput) :
    (∀ o rest, skipResets inputs ≠ .reset o :: rest) ∧ skipResets inputs <:+ inputs := by
  induction inputs with
  | nil => exact ⟨by simp [skipResets], List.suffix_refl _⟩
  | cons x rest ih =>
    cases x with
    | reset o => exact ⟨ih.1, ih.2.trans (List.suffix_cons _ _)⟩
    | _ => exact ⟨by simp [skipResets], List.suffix_refl _⟩

end Sys2Proof.Machine
end

