-- ==== Sys2Proof/Laws/PerInstr.lean ====
section
/-! SUPPORT. One lemma per instruction about it as syntax: its row of the opcode map (30_encoding.md R41, R42). -/

namespace Sys2Proof.Laws.OpcodeMap

/-- The instruction has an opcode: the encoder writes it with the instruction's own type, and the opcode map reads the instruction
back from it. -/
def Statement (i : Instr) : Prop :=
  i.definedForKind = true →
    ∃ op : BitVec 7, (encode i).cmd = cmdWord op i.ty ∧ decodeOp op.toNat i.ty (encode i).a (encode i).b = .ok i

theorem fromraw (t : Ty) (a : Word) : Statement (.fromraw t a) := fun _ => ⟨0x01, rfl, rfl⟩

theorem fromint (t : Ty) (a : Word) : Statement (.fromint t a) := fun _ => ⟨0x02, rfl, rfl⟩

theorem fromf32 (t : Ty) (a : Word) : Statement (.fromf32 t a) := fun _ => ⟨0x03, rfl, rfl⟩

theorem fromf64 (t : Ty) (a b : Word) : Statement (.fromf64 t a b) := fun _ => ⟨0x04, rfl, rfl⟩

theorem add (t : Ty) (a b : Word) : Statement (.add t a b) := fun _ => ⟨0x08, rfl, rfl⟩

theorem sub (t : Ty) (a b : Word) : Statement (.sub t a b) := fun _ => ⟨0x09, rfl, rfl⟩

theorem mul (t : Ty) (a b : Word) : Statement (.mul t a b) := fun _ => ⟨0x0A, rfl, rfl⟩

theorem div (t : Ty) (a b : Word) : Statement (.div t a b) := fun _ => ⟨0x0B, rfl, rfl⟩

theorem mod (t : Ty) (a b : Word) : Statement (.mod t a b) := fun _ => ⟨0x0C, rfl, rfl⟩

theorem addsat (t : Ty) (a b : Word) : Statement (.addsat t a b) := fun _ => ⟨0x0D, rfl, rfl⟩

theorem subsat (t : Ty) (a b : Word) : Statement (.subsat t a b) := fun _ => ⟨0x0E, rfl, rfl⟩

theorem mulsat (t : Ty) (a b : Word) : Statement (.mulsat t a b) := fun _ => ⟨0x0F, rfl, rfl⟩

theorem mulpow2 (t : Ty) (a b : Word) : Statement (.mulpow2 t a b) := fun _ => ⟨0x10, rfl, rfl⟩

theorem divpow2 (t : Ty) (a b : Word) : Statement (.divpow2 t a b) := fun _ => ⟨0x11, rfl, rfl⟩

theorem modpow2 (t : Ty) (a b : Word) : Statement (.modpow2 t a b) := fun _ => ⟨0x12, rfl, rfl⟩

theorem band (t : Ty) (a b : Word) : Statement (.band t a b) := fun _ => ⟨0x14, rfl, rfl⟩

theorem bor (t : Ty) (a b : Word) : Statement (.bor t a b) := fun _ => ⟨0x15, rfl, rfl⟩

theorem bxor (t : Ty) (a b : Word) : Statement (.bxor t a b) := fun _ => ⟨0x16, rfl, rfl⟩

theorem bnot (t : Ty) (a : Word) : Statement (.bnot t a) := fun _ => ⟨0x17, rfl, rfl⟩

theorem shl (t : Ty) (a b : Word) : Statement (.shl t a b) := fun _ => ⟨0x18, rfl, rfl⟩

theorem shr (t : Ty) (a b : Word) : Statement (.shr t a b) := fun _ => ⟨0x19, rfl, rfl⟩

theorem rol (t : Ty) (a b : Word) : Statement (.rol t a b) := fun _ => ⟨0x1A, rfl, rfl⟩

theorem ror (t : Ty) (a b : Word) : Statement (.ror t a b) := fun _ => ⟨0x1B, rfl, rfl⟩

theorem eq (t : Ty) (a b : Word) : Statement (.eq t a b) := fun _ => ⟨0x20, rfl, rfl⟩

theorem ne (t : Ty) (a b : Word) : Statement (.ne t a b) := fun _ => ⟨0x21, rfl, rfl⟩

theorem lt (t : Ty) (a b : Word) : Statement (.lt t a b) := fun _ => ⟨0x22, rfl, rfl⟩

theorem le (t : Ty) (a b : Word) : Statement (.le t a b) := fun _ => ⟨0x23, rfl, rfl⟩

theorem gt (t : Ty) (a b : Word) : Statement (.gt t a b) := fun _ => ⟨0x24, rfl, rfl⟩

theorem ge (t : Ty) (a b : Word) : Statement (.ge t a b) := fun _ => ⟨0x25, rfl, rfl⟩

theorem min (t : Ty) (a b : Word) : Statement (.min t a b) := fun _ => ⟨0x28, rfl, rfl⟩

theorem max (t : Ty) (a b : Word) : Statement (.max t a b) := fun _ => ⟨0x29, rfl, rfl⟩

theorem avg (t : Ty) (a b : Word) : Statement (.avg t a b) := fun _ => ⟨0x2A, rfl, rfl⟩

theorem sign (t : Ty) (a : Word) : Statement (.sign t a) := fun _ => ⟨0x2B, rfl, rfl⟩

theorem abs (t : Ty) (a : Word) : Statement (.abs t a) := fun _ => ⟨0x2C, rfl, rfl⟩

theorem neg (t : Ty) (a : Word) : Statement (.neg t a) := fun _ => ⟨0x2D, rfl, rfl⟩

theorem copysign (t : Ty) (a b : Word) : Statement (.copysign t a b) := fun _ => ⟨0x2E, rfl, rfl⟩

theorem rev (t : Ty) (a : Word) : Statement (.rev t a) := fun _ => ⟨0x30, rfl, rfl⟩

theorem popcnt (t : Ty) (a : Word) : Statement (.popcnt t a) := fun _ => ⟨0x31, rfl, rfl⟩

theorem parity (t : Ty) (a : Word) : Statement (.parity t a) := fun _ => ⟨0x32, rfl, rfl⟩

theorem clz (t : Ty) (a : Word) : Statement (.clz t a) := fun _ => ⟨0x33, rfl, rfl⟩

theorem ctz (t : Ty) (a : Word) : Statement (.ctz t a) := fun _ => ⟨0x34, rfl, rfl⟩

theorem bsr (t : Ty) (a : Word) : Statement (.bsr t a) := fun _ => ⟨0x35, rfl, rfl⟩

theorem bsf (t : Ty) (a : Word) : Statement (.bsf t a) := fun _ => ⟨0x36, rfl, rfl⟩

theorem zero (t : Ty) : Statement (.zero t) := fun _ => ⟨0x38, rfl, rfl⟩

theorem one (t : Ty) : Statement (.one t) := fun _ => ⟨0x39, rfl, rfl⟩

theorem lsb (t : Ty) : Statement (.lsb t) := fun _ => ⟨0x3A, rfl, rfl⟩

theorem half (t : Ty) : Statement (.half t) := fun _ => ⟨0x3B, rfl, rfl⟩

theorem allones (t : Ty) : Statement (.allones t) := fun _ => ⟨0x3C, rfl, rfl⟩

theorem msb (t : Ty) : Statement (.msb t) := fun _ => ⟨0x3D, rfl, rfl⟩

theorem minval (t : Ty) : Statement (.minval t) := fun _ => ⟨0x3E, rfl, rfl⟩

theorem maxval (t : Ty) : Statement (.maxval t) := fun _ => ⟨0x3F, rfl, rfl⟩

theorem bit (t : Ty) (a : Word) : Statement (.bit t a) := fun _ => ⟨0x40, rfl, rfl⟩

theorem fraction (t : Ty) (a b : Word) : Statement (.fraction t a b) := fun _ => ⟨0x41, rfl, rfl⟩

theorem tobytes (t : Ty) (a : Word) : Statement (.tobytes t a) := fun _ => ⟨0x44, rfl, rfl⟩

theorem frombytes (t : Ty) (a b : Word) : Statement (.frombytes t a b) := fun _ => ⟨0x45, rfl, rfl⟩

theorem getbyte (t : Ty) (a b : Word) : Statement (.getbyte t a b) := fun _ => ⟨0x46, rfl, rfl⟩

theorem setbyte (t : Ty) (a b : Word) : Statement (.setbyte t a b) := fun _ => ⟨0x47, rfl, rfl⟩

theorem convert (t : Ty) (a b : Word) : Statement (.convert t a b) := fun _ => ⟨0x48, rfl, rfl⟩

theorem convfrac (t : Ty) (a b : Word) : Statement (.convfrac t a b) := by
  obtain ⟨k, n, f⟩ := t
  intro h
  cases k with
  | si => cases h
  | ui => cases h
  | fx => exact ⟨0x49, rfl, rfl⟩
  | ufx => exact ⟨0x49, rfl, rfl⟩

theorem sin (t : Ty) (a : Word) : Statement (.sin t a) := fun _ => ⟨0x50, rfl, rfl⟩

theorem cos (t : Ty) (a : Word) : Statement (.cos t a) := fun _ => ⟨0x51, rfl, rfl⟩

theorem tan (t : Ty) (a : Word) : Statement (.tan t a) := fun _ => ⟨0x52, rfl, rfl⟩

theorem asin (t : Ty) (a : Word) : Statement (.asin t a) := fun _ => ⟨0x53, rfl, rfl⟩

theorem acos (t : Ty) (a : Word) : Statement (.acos t a) := fun _ => ⟨0x54, rfl, rfl⟩

end Sys2Proof.Laws.OpcodeMap
end

