-- ==== Sys2Proof/Laws/Trig.lean ====
section
/-! SUPPORT. What the tangent divider and the bisection of the arcsine evaluator do, once each. -/

namespace Sys2Proof.Machine

/-- Everything the tangent divider can answer (44_trig.md R121). -/
theorem tangent_cases (s c : Int) :
    (c = 0 ∧ s < 0 ∧ tangent s c = -tanSentinel) ∨ (c = 0 ∧ 0 ≤ s ∧ tangent s c = tanSentinel) ∨
      (c ≠ 0 ∧ -tanSentinel ≤ tangent s c ∧ tangent s c ≤ tanSentinel ∧
        tangent s c = clamp ((s * 65536).tdiv c) (-tanSentinel) tanSentinel) := by
  by_cases hc : c = 0
  · by_cases hs : s < 0
    · exact .inl ⟨hc, hs, by simp [tangent, hc, hs]⟩
    · exact .inr (.inl ⟨hc, by omega, by simp [tangent, hc, hs]⟩)
  · have h : tangent s c = clamp ((s * 65536).tdiv c) (-tanSentinel) tanSentinel := by simp [tangent, hc, truncDiv]
    obtain ⟨h1, h2, -⟩ := clamp_spec (v := (s * 65536).tdiv c) (show -tanSentinel ≤ tanSentinel by decide)
    rw [← h] at h1 h2
    exact .inr (.inr ⟨hc, h1, h2, h⟩)

/-- The bisection stays in its range: at least `low`, and below `high` when there is room. -/
theorem bisect_range (pass : Nat → Bool) (steps low high : Nat) (h : low < high) :
    low ≤ bisect pass steps low high ∧ bisect pass steps low high < high := by
  induction steps generalizing low high with
  | zero => exact ⟨Nat.le_refl _, h⟩
  | succ k ih =>
    rw [bisect]
    split
    · exact ⟨Nat.le_refl _, h⟩
    · split
      · obtain ⟨a, b⟩ := ih ((low + high) / 2) high (by omega)
        exact ⟨by omega, b⟩
      · obtain ⟨a, b⟩ := ih low ((low + high) / 2) (by omega)
        exact ⟨a, by omega⟩

/-- With steps enough for its range, the bisection ends where the predicate changes: its answer is `low` or passes, and the next
number fails or is `high`. -/
theorem bisect_spec (pass : Nat → Bool) (steps low high : Nat) (h : low < high) (hs : high - low ≤ 2 ^ steps) :
    (bisect pass steps low high = low ∨ pass (bisect pass steps low high) = true) ∧
      (bisect pass steps low high + 1 = high ∨ pass (bisect pass steps low high + 1) = false) := by
  induction steps generalizing low high with
  | zero =>
    rw [bisect]
    exact ⟨.inl rfl, .inl (by omega)⟩
  | succ k ih =>
    rw [pow_succ] at hs
    rw [bisect]
    split
    · exact ⟨.inl rfl, .inl (by omega)⟩
    · split
      · rename_i hp
        obtain ⟨a, b⟩ := ih ((low + high) / 2) high (by omega) (by omega)
        refine ⟨.inr ?_, b⟩
        rcases a with a | a
        · rw [a]; exact hp
        · exact a
      · rename_i hp
        obtain ⟨a, b⟩ := ih low ((low + high) / 2) (by omega) (by omega)
        refine ⟨a, .inr ?_⟩
        rcases b with b | b
        · rw [b]; simpa using hp
        · exact b

/-- A predicate that passes wherever another does takes the bisection at least as far. -/
theorem bisect_mono {pass pass' : Nat → Bool} (hp : ∀ k, pass k = true → pass' k = true) (steps low high : Nat)
    (h : low < high) : bisect pass steps low high ≤ bisect pass' steps low high := by
  induction steps generalizing low high with
  | zero => exact Nat.le_refl _
  | succ k ih =>
    rw [bisect, bisect]
    split
    · exact Nat.le_refl _
    · by_cases h1 : pass ((low + high) / 2) = true
      · rw [if_pos h1, if_pos (hp _ h1)]
        exact ih _ _ (by omega)
      · rw [if_neg h1]
        by_cases h2 : pass' ((low + high) / 2) = true
        · rw [if_pos h2]
          have a := (bisect_range pass k low ((low + high) / 2) (by omega)).2
          have b := (bisect_range pass' k ((low + high) / 2) high (by omega)).1
          omega
        · rw [if_neg h2]
          exact ih _ _ (by omega)

end Sys2Proof.Machine
end

