-- ==== Sys2Proof/Tests/Slice0.lean ====
section
/-! SUPPORT. The model's own tests. Every expected word and response is the spec's (the vectors of 95_test_vectors.md and the
examples beside the rules), none is the model's answer pasted back. Then one witness per obligation with hypotheses: a state and
operands that meet them all, at the boundaries of its clauses. -/

namespace Sys2Proof.Tests

open Sys2Proof Sys2Proof.Machine

/-- The response of one step on a command placed right after reset. -/
def respOf (cmd a b : Nat) : Option (Word × BitVec 3) :=
  match step (State.reset.withFetchWord 96 (cmd + a * 2 ^ 32 + b * 2 ^ 64)) with
  | .next s => if s.rvalid then some (s.r, s.err) else none
  | .fault _ => none
  | .refused _ => none

/-! ### Well-formedness: each check refuses an ill-formed term (30_encoding.md R40, R42) -/

theorem test_wf_width_33 : (Instr.add ⟨.si, 33, 0⟩ 0 0).wellFormed = false := by decide

theorem test_wf_fraction_on_si : (Instr.add ⟨.si, 8, 1⟩ 0 0).wellFormed = false := by decide

theorem test_wf_fraction_on_ui : (Instr.add ⟨.ui, 8, 1⟩ 0 0).wellFormed = false := by decide

theorem test_wf_fraction_over_width_fx : (Instr.add ⟨.fx, 8, 9⟩ 0 0).wellFormed = false := by decide

theorem test_wf_fraction_over_width_ufx : (Instr.add ⟨.ufx, 8, 9⟩ 0 0).wellFormed = false := by decide

theorem test_wf_convfrac_on_si : (Instr.convfrac ⟨.si, 8, 0⟩ 0 0).wellFormed = false := by decide

theorem test_wf_convfrac_on_ui : (Instr.convfrac ⟨.ui, 8, 0⟩ 0 0).wellFormed = false := by decide

theorem test_wf_legal : (Instr.add ⟨.fx, 8, 8⟩ 0 0).wellFormed = true ∧ (Instr.add ⟨.ufx, 0, 0⟩ 0 0).wellFormed = true ∧
    (Instr.convfrac ⟨.ufx, 32, 32⟩ 0 0).wellFormed = true := by decide

/-! ### Decoding: a word of the spec for every constructor, and one per family written out field by field (R37)

The fields, from bit 31 down: reserved (10 bits), F (6), N (6), KIND (2), reserved (1), OP (7). -/

/-! Family: construction. -/

theorem test_decode_fromraw : decode ⟨0x00084201, 0x11223344, 0x55667788⟩ = .ok (.fromraw ⟨.fx, 16, 8⟩ 0x11223344) := by decide

theorem test_decode_fromraw_bit_by_bit :
    decode ⟨0b0000000000#10 ++ 0b001000#6 ++ 0b010000#6 ++ 0b10#2 ++ 0b0#1 ++ 0b0000001#7, 0x11223344, 0x55667788⟩ =
      .ok (.fromraw ⟨.fx, 16, 8⟩ 0x11223344) := by decide

theorem test_decode_fromint : decode ⟨0x00042302, 0x11223344, 0x55667788⟩ = .ok (.fromint ⟨.ufx, 8, 4⟩ 0x11223344) := by decide

theorem test_decode_fromf32 : decode ⟨0x00084203, 0x11223344, 0x55667788⟩ = .ok (.fromf32 ⟨.fx, 16, 8⟩ 0x11223344) := by decide

theorem test_decode_fromf64 : decode ⟨0x00044304, 0x11223344, 0x55667788⟩ = .ok (.fromf64 ⟨.ufx, 16, 4⟩ 0x11223344 0x55667788) := by decide

/-! Family: arithmetic. -/

theorem test_decode_add : decode ⟨0x00084208, 0x11223344, 0x55667788⟩ = .ok (.add ⟨.fx, 16, 8⟩ 0x11223344 0x55667788) := by decide

theorem test_decode_add_bit_by_bit :
    decode ⟨0b0000000000#10 ++ 0b001000#6 ++ 0b010000#6 ++ 0b10#2 ++ 0b0#1 ++ 0b0001000#7, 0x11223344, 0x55667788⟩ =
      .ok (.add ⟨.fx, 16, 8⟩ 0x11223344 0x55667788) := by decide

theorem test_decode_sub : decode ⟨0x00002109, 0x11223344, 0x55667788⟩ = .ok (.sub ⟨.ui, 8, 0⟩ 0x11223344 0x55667788) := by decide

theorem test_decode_mul : decode ⟨0x0008420A, 0x11223344, 0x55667788⟩ = .ok (.mul ⟨.fx, 16, 8⟩ 0x11223344 0x55667788) := by decide

theorem test_decode_div : decode ⟨0x0008420B, 0x11223344, 0x55667788⟩ = .ok (.div ⟨.fx, 16, 8⟩ 0x11223344 0x55667788) := by decide

theorem test_decode_mod : decode ⟨0x0008420C, 0x11223344, 0x55667788⟩ = .ok (.mod ⟨.fx, 16, 8⟩ 0x11223344 0x55667788) := by decide

theorem test_decode_addsat : decode ⟨0x0008420D, 0x11223344, 0x55667788⟩ = .ok (.addsat ⟨.fx, 16, 8⟩ 0x11223344 0x55667788) := by decide

theorem test_decode_subsat : decode ⟨0x0000210E, 0x11223344, 0x55667788⟩ = .ok (.subsat ⟨.ui, 8, 0⟩ 0x11223344 0x55667788) := by decide

theorem test_decode_mulsat : decode ⟨0x0008420F, 0x11223344, 0x55667788⟩ = .ok (.mulsat ⟨.fx, 16, 8⟩ 0x11223344 0x55667788) := by decide

/-! Family: power of two, logic, shifts and rotates. -/

theorem test_decode_mulpow2 : decode ⟨0x00002110, 0x11223344, 0x55667788⟩ = .ok (.mulpow2 ⟨.ui, 8, 0⟩ 0x11223344 0x55667788) := by decide

theorem test_decode_mulpow2_bit_by_bit :
    decode ⟨0b0000000000#10 ++ 0b000000#6 ++ 0b001000#6 ++ 0b01#2 ++ 0b0#1 ++ 0b0010000#7, 0x11223344, 0x55667788⟩ =
      .ok (.mulpow2 ⟨.ui, 8, 0⟩ 0x11223344 0x55667788) := by decide

theorem test_decode_divpow2 : decode ⟨0x00084211, 0x11223344, 0x55667788⟩ = .ok (.divpow2 ⟨.fx, 16, 8⟩ 0x11223344 0x55667788) := by decide

theorem test_decode_modpow2 : decode ⟨0x00002112, 0x11223344, 0x55667788⟩ = .ok (.modpow2 ⟨.ui, 8, 0⟩ 0x11223344 0x55667788) := by decide

theorem test_decode_band : decode ⟨0x00002014, 0x11223344, 0x55667788⟩ = .ok (.band ⟨.si, 8, 0⟩ 0x11223344 0x55667788) := by decide

theorem test_decode_bor : decode ⟨0x00002115, 0x11223344, 0x55667788⟩ = .ok (.bor ⟨.ui, 8, 0⟩ 0x11223344 0x55667788) := by decide

theorem test_decode_bxor : decode ⟨0x00002016, 0x11223344, 0x55667788⟩ = .ok (.bxor ⟨.si, 8, 0⟩ 0x11223344 0x55667788) := by decide

theorem test_decode_bnot : decode ⟨0x00084217, 0x11223344, 0x55667788⟩ = .ok (.bnot ⟨.fx, 16, 8⟩ 0x11223344) := by decide

theorem test_decode_shl : decode ⟨0x00002118, 0x11223344, 0x55667788⟩ = .ok (.shl ⟨.ui, 8, 0⟩ 0x11223344 0x55667788) := by decide

theorem test_decode_shr : decode ⟨0x00004119, 0x11223344, 0x55667788⟩ = .ok (.shr ⟨.ui, 16, 0⟩ 0x11223344 0x55667788) := by decide

theorem test_decode_rol : decode ⟨0x0000211A, 0x11223344, 0x55667788⟩ = .ok (.rol ⟨.ui, 8, 0⟩ 0x11223344 0x55667788) := by decide

theorem test_decode_ror : decode ⟨0x0000211B, 0x11223344, 0x55667788⟩ = .ok (.ror ⟨.ui, 8, 0⟩ 0x11223344 0x55667788) := by decide

/-! Family: comparisons and utility operations. -/

theorem test_decode_eq : decode ⟨0x00002020, 0x11223344, 0x55667788⟩ = .ok (.eq ⟨.si, 8, 0⟩ 0x11223344 0x55667788) := by decide

theorem test_decode_eq_bit_by_bit :
    decode ⟨0b0000000000#10 ++ 0b000000#6 ++ 0b001000#6 ++ 0b00#2 ++ 0b0#1 ++ 0b0100000#7, 0x11223344, 0x55667788⟩ =
      .ok (.eq ⟨.si, 8, 0⟩ 0x11223344 0x55667788) := by decide

theorem test_decode_ne : decode ⟨0x00002121, 0x11223344, 0x55667788⟩ = .ok (.ne ⟨.ui, 8, 0⟩ 0x11223344 0x55667788) := by decide

theorem test_decode_lt : decode ⟨0x00004122, 0x11223344, 0x55667788⟩ = .ok (.lt ⟨.ui, 16, 0⟩ 0x11223344 0x55667788) := by decide

theorem test_decode_le : decode ⟨0x00004023, 0x11223344, 0x55667788⟩ = .ok (.le ⟨.si, 16, 0⟩ 0x11223344 0x55667788) := by decide

theorem test_decode_gt : decode ⟨0x00084224, 0x11223344, 0x55667788⟩ = .ok (.gt ⟨.fx, 16, 8⟩ 0x11223344 0x55667788) := by decide

theorem test_decode_ge : decode ⟨0x00084225, 0x11223344, 0x55667788⟩ = .ok (.ge ⟨.fx, 16, 8⟩ 0x11223344 0x55667788) := by decide

theorem test_decode_min : decode ⟨0x00002128, 0x11223344, 0x55667788⟩ = .ok (.min ⟨.ui, 8, 0⟩ 0x11223344 0x55667788) := by decide

theorem test_decode_max : decode ⟨0x00002129, 0x11223344, 0x55667788⟩ = .ok (.max ⟨.ui, 8, 0⟩ 0x11223344 0x55667788) := by decide

theorem test_decode_avg : decode ⟨0x0008422A, 0x11223344, 0x55667788⟩ = .ok (.avg ⟨.fx, 16, 8⟩ 0x11223344 0x55667788) := by decide

theorem test_decode_sign : decode ⟨0x0004232B, 0x11223344, 0x55667788⟩ = .ok (.sign ⟨.ufx, 8, 4⟩ 0x11223344) := by decide

theorem test_decode_abs : decode ⟨0x0000212C, 0x11223344, 0x55667788⟩ = .ok (.abs ⟨.ui, 8, 0⟩ 0x11223344) := by decide

theorem test_decode_neg : decode ⟨0x0000212D, 0x11223344, 0x55667788⟩ = .ok (.neg ⟨.ui, 8, 0⟩ 0x11223344) := by decide

theorem test_decode_copysign : decode ⟨0x0000212E, 0x11223344, 0x55667788⟩ = .ok (.copysign ⟨.ui, 8, 0⟩ 0x11223344 0x55667788) := by decide

/-! Family: bit manipulation. -/

theorem test_decode_rev : decode ⟨0x00002130, 0x11223344, 0x55667788⟩ = .ok (.rev ⟨.ui, 8, 0⟩ 0x11223344) := by decide

theorem test_decode_rev_bit_by_bit :
    decode ⟨0b0000000000#10 ++ 0b000000#6 ++ 0b001000#6 ++ 0b01#2 ++ 0b0#1 ++ 0b0110000#7, 0x11223344, 0x55667788⟩ =
      .ok (.rev ⟨.ui, 8, 0⟩ 0x11223344) := by decide

theorem test_decode_popcnt : decode ⟨0x00002131, 0x11223344, 0x55667788⟩ = .ok (.popcnt ⟨.ui, 8, 0⟩ 0x11223344) := by decide

theorem test_decode_parity : decode ⟨0x00002132, 0x11223344, 0x55667788⟩ = .ok (.parity ⟨.ui, 8, 0⟩ 0x11223344) := by decide

theorem test_decode_clz : decode ⟨0x00004133, 0x11223344, 0x55667788⟩ = .ok (.clz ⟨.ui, 16, 0⟩ 0x11223344) := by decide

theorem test_decode_ctz : decode ⟨0x00002134, 0x11223344, 0x55667788⟩ = .ok (.ctz ⟨.ui, 8, 0⟩ 0x11223344) := by decide

theorem test_decode_bsr : decode ⟨0x00004135, 0x11223344, 0x55667788⟩ = .ok (.bsr ⟨.ui, 16, 0⟩ 0x11223344) := by decide

theorem test_decode_bsf : decode ⟨0x00004136, 0x11223344, 0x55667788⟩ = .ok (.bsf ⟨.ui, 16, 0⟩ 0x11223344) := by decide

/-! Family: constants. -/

theorem test_decode_zero : decode ⟨0x00004038, 0x11223344, 0x55667788⟩ = .ok (.zero ⟨.si, 16, 0⟩) := by decide

theorem test_decode_zero_bit_by_bit :
    decode ⟨0b0000000000#10 ++ 0b000000#6 ++ 0b010000#6 ++ 0b00#2 ++ 0b0#1 ++ 0b0111000#7, 0x11223344, 0x55667788⟩ =
      .ok (.zero ⟨.si, 16, 0⟩) := by decide

theorem test_decode_one : decode ⟨0x00082339, 0x11223344, 0x55667788⟩ = .ok (.one ⟨.ufx, 8, 8⟩) := by decide

theorem test_decode_lsb : decode ⟨0x0008423A, 0x11223344, 0x55667788⟩ = .ok (.lsb ⟨.fx, 16, 8⟩) := by decide

theorem test_decode_half : decode ⟨0x0008233B, 0x11223344, 0x55667788⟩ = .ok (.half ⟨.ufx, 8, 8⟩) := by decide

theorem test_decode_allones : decode ⟨0x0000213C, 0x11223344, 0x55667788⟩ = .ok (.allones ⟨.ui, 8, 0⟩) := by decide

theorem test_decode_msb : decode ⟨0x0000213D, 0x11223344, 0x55667788⟩ = .ok (.msb ⟨.ui, 8, 0⟩) := by decide

theorem test_decode_minval : decode ⟨0x0000413E, 0x11223344, 0x55667788⟩ = .ok (.minval ⟨.ui, 16, 0⟩) := by decide

theorem test_decode_maxval : decode ⟨0x0008423F, 0x11223344, 0x55667788⟩ = .ok (.maxval ⟨.fx, 16, 8⟩) := by decide

theorem test_decode_bit : decode ⟨0x00002140, 0x11223344, 0x55667788⟩ = .ok (.bit ⟨.ui, 8, 0⟩ 0x11223344) := by decide

theorem test_decode_fraction : decode ⟨0x00104341, 0x11223344, 0x55667788⟩ = .ok (.fraction ⟨.ufx, 16, 16⟩ 0x11223344 0x55667788) := by decide

/-! Family: byte access and scaler. -/

theorem test_decode_tobytes : decode ⟨0x00000144, 0x11223344, 0x55667788⟩ = .ok (.tobytes ⟨.ui, 0, 0⟩ 0x11223344) := by decide

theorem test_decode_tobytes_bit_by_bit :
    decode ⟨0b0000000000#10 ++ 0b000000#6 ++ 0b000000#6 ++ 0b01#2 ++ 0b0#1 ++ 0b1000100#7, 0x11223344, 0x55667788⟩ =
      .ok (.tobytes ⟨.ui, 0, 0⟩ 0x11223344) := by decide

theorem test_decode_frombytes : decode ⟨0x00000145, 0x11223344, 0x55667788⟩ = .ok (.frombytes ⟨.ui, 0, 0⟩ 0x11223344 0x55667788) := by decide

theorem test_decode_getbyte : decode ⟨0x00004146, 0x11223344, 0x55667788⟩ = .ok (.getbyte ⟨.ui, 16, 0⟩ 0x11223344 0x55667788) := by decide

theorem test_decode_setbyte : decode ⟨0x00004147, 0x11223344, 0x55667788⟩ = .ok (.setbyte ⟨.ui, 16, 0⟩ 0x11223344 0x55667788) := by decide

theorem test_decode_convert : decode ⟨0x00082348, 0x11223344, 0x55667788⟩ = .ok (.convert ⟨.ufx, 8, 8⟩ 0x11223344 0x55667788) := by decide

theorem test_decode_convfrac : decode ⟨0x00042349, 0x11223344, 0x55667788⟩ = .ok (.convfrac ⟨.ufx, 8, 4⟩ 0x11223344 0x55667788) := by decide

/-! Family: trigonometric pipeline. -/

theorem test_decode_sin : decode ⟨0x00084250, 0x11223344, 0x55667788⟩ = .ok (.sin ⟨.fx, 16, 8⟩ 0x11223344) := by decide

theorem test_decode_sin_bit_by_bit :
    decode ⟨0b0000000000#10 ++ 0b001000#6 ++ 0b010000#6 ++ 0b10#2 ++ 0b0#1 ++ 0b1010000#7, 0x11223344, 0x55667788⟩ =
      .ok (.sin ⟨.fx, 16, 8⟩ 0x11223344) := by decide

theorem test_decode_cos : decode ⟨0x00003151, 0x11223344, 0x55667788⟩ = .ok (.cos ⟨.ui, 12, 0⟩ 0x11223344) := by decide

theorem test_decode_tan : decode ⟨0x00003952, 0x11223344, 0x55667788⟩ = .ok (.tan ⟨.ui, 14, 0⟩ 0x11223344) := by decide

theorem test_decode_asin : decode ⟨0x00084353, 0x11223344, 0x55667788⟩ = .ok (.asin ⟨.ufx, 16, 8⟩ 0x11223344) := by decide

theorem test_decode_acos : decode ⟨0x00084254, 0x11223344, 0x55667788⟩ = .ok (.acos ⟨.fx, 16, 8⟩ 0x11223344) := by decide

/-! Words the decoder rejects (R39, R41, R42): the bounds of every gap of the opcode map, each reserved range's bounds. -/

theorem test_decode_unassigned :
    ∀ op ∈ [0x00, 0x05, 0x07, 0x13, 0x1C, 0x1F, 0x26, 0x27, 0x2F, 0x37, 0x42, 0x43, 0x4A, 0x4F, 0x55, 0x7F],
      decode ⟨BitVec.ofNat 32 (0x00004000 + op), 0, 0⟩ = .error .unassignedOpcode := by decide

theorem test_decode_reserved_bits :
    ∀ bit ∈ [7, 22, 31], decode ⟨BitVec.ofNat 32 (0x00004008 + 2 ^ bit), 0, 0⟩ = .error .reservedBits := by decide

theorem test_decode_convfrac_on_integers :
    decode ⟨0x00004049, 0, 0⟩ = .error .undefinedForKind ∧ decode ⟨0x00004149, 0, 0⟩ = .error .undefinedForKind := by decide

theorem test_decodeTableWord_add : decodeTableWord 32 0x00004008 = some (.add ⟨.si, 16, 0⟩ 0 0) := by decide

/-! ### One step each: vectors of 95_test_vectors.md and examples of the rules -/

theorem test_fromraw_sign_bit : respOf 0x00004001 0x8000 0x0 = some (0xFFFF8000, 0) := by decide

theorem test_fromraw_drops_high_bits : respOf 0x00004001 0x12345678 0x0 = some (0x00005678, 0) := by decide

theorem test_fromint_wraps : respOf 0x00084202 0x80 0x0 = some (0xFFFF8000, 0) := by decide

theorem test_fromint_unsigned_wraps : respOf 0x00042302 0xFFFFFFFF 0x0 = some (0x000000F0, 0) := by decide

theorem test_fromf32_rounds : respOf 0x00084203 0x3E99999A 0x0 = some (0x0000004D, 0) := by decide

theorem test_fromf32_over_range : respOf 0x00008003 0x7F61B1E6 0x0 = some (0x00000000, 0) := by decide

theorem test_fromf64_negative : respOf 0x00108204 0x0 0xBFD00000 = some (0xFFFFC000, 0) := by decide

theorem test_fromf64_rounds : respOf 0x00044304 0x66666666 0x400A6666 = some (0x00000035, 0) := by decide

theorem test_add_wraps : respOf 0x00004008 0x7FFF 0x1 = some (0xFFFF8000, 0) := by decide

theorem test_add_width_zero : respOf 0x00000008 0x0 0x0 = some (0xFFFFFFFF, 0) := by decide

theorem test_sub_wraps : respOf 0x00002009 0x80 0x1 = some (0x0000007F, 0) := by decide

theorem test_sub_borrows : respOf 0x00002109 0x0 0x1 = some (0x000000FF, 0) := by decide

theorem test_mul_floors : respOf 0x0008420A 0xFFFFFF80 0x1 = some (0xFFFFFFFF, 0) := by decide

theorem test_mul_low_bits : respOf 0x0000810A 0xFFFFFFFF 0xFFFFFFFF = some (0x00000001, 0) := by decide

theorem test_div_signed_min : respOf 0x0000400B 0x8000 0xFFFFFFFF = some (0xFFFF8000, 0) := by decide

theorem test_div_truncates : respOf 0x0008420B 0xFFFFFF00 0x200 = some (0xFFFFFF80, 0) := by decide

theorem test_mod_dividend_sign : respOf 0x0000400C 0xFFFFFFF9 0x2 = some (0xFFFFFFFF, 0) := by decide

theorem test_mod_divisor_negative : respOf 0x0000400C 0x7 0xFFFFFFFE = some (0x00000001, 0) := by decide

theorem test_addsat_needs_33_bits : respOf 0x0000800D 0x7FFFFFFF 0x7FFFFFFF = some (0x7FFFFFFF, 0) := by decide

theorem test_addsat_clamps_low : respOf 0x0000400D 0x8000 0xFFFFFFFF = some (0xFFFF8000, 0) := by decide

theorem test_subsat_clamps_zero : respOf 0x0000210E 0x0 0x1 = some (0x00000000, 0) := by decide

theorem test_subsat_clamps_high : respOf 0x0000200E 0x7F 0xFFFFFFFF = some (0x0000007F, 0) := by decide

theorem test_mulsat_scaled_clamps : respOf 0x0008420F 0x7FFF 0x200 = some (0x00007FFF, 0) := by decide

theorem test_mulsat_clamps_low : respOf 0x0000400F 0x8000 0x2 = some (0xFFFF8000, 0) := by decide

theorem test_mulpow2_amount_is_width : respOf 0x00004010 0x1 0x10 = some (0x00000000, 0) := by decide

theorem test_mulpow2_amount_over_width : respOf 0x00004010 0x1 0x11 = some (0x00000000, 2) := by decide

theorem test_divpow2_amount_is_width : respOf 0x00004011 0x8000 0x10 = some (0xFFFFFFFF, 0) := by decide

theorem test_divpow2_floors : respOf 0x00004011 0xFFFFFFFD 0x1 = some (0xFFFFFFFE, 0) := by decide

theorem test_modpow2_whole_width : respOf 0x00001012 0xF 0x4 = some (0xFFFFFFFF, 0) := by decide

theorem test_modpow2_pattern : respOf 0x00002012 0xFF 0x4 = some (0x0000000F, 0) := by decide

theorem test_band_pattern : respOf 0x00002014 0xF0 0x3C = some (0x00000030, 0) := by decide

theorem test_bor_pattern : respOf 0x00002115 0xF0 0xF = some (0x000000FF, 0) := by decide

theorem test_bxor_sign_extends : respOf 0x00002016 0x7F 0xFFFFFFFF = some (0xFFFFFF80, 0) := by decide

theorem test_bnot_unsigned : respOf 0x00002117 0x0 0x0 = some (0x000000FF, 0) := by decide

theorem test_bnot_fixed : respOf 0x00084217 0x100 0x0 = some (0xFFFFFEFF, 0) := by decide

theorem test_shl_into_sign : respOf 0x00004018 0x1 0xF = some (0xFFFF8000, 0) := by decide

theorem test_shl_amount_is_width : respOf 0x00004018 0x1 0x10 = some (0x00000000, 2) := by decide

theorem test_shr_arithmetic : respOf 0x00004019 0x8000 0xF = some (0xFFFFFFFF, 0) := by decide

theorem test_shr_logical : respOf 0x00004119 0x8000 0xF = some (0x00000001, 0) := by decide

theorem test_rol_sign_extends : respOf 0x0000201A 0x40 0x1 = some (0xFFFFFF80, 0) := by decide

theorem test_rol_negative_amount : respOf 0x0000211A 0x81 0xFFFFFFFF = some (0x00000000, 2) := by decide

theorem test_ror_amount_over_width : respOf 0x0000811B 0x80000001 0x24 = some (0x18000000, 0) := by decide

theorem test_ror_width_zero : respOf 0x0000011B 0x0 0x5 = some (0x00000000, 0) := by decide

theorem test_eq_canonicalises : respOf 0x00002020 0x1FF 0xFFFFFFFF = some (0x00000001, 0) := by decide

theorem test_ne_differs : respOf 0x00002121 0x1 0x2 = some (0x00000001, 0) := by decide

theorem test_lt_signed : respOf 0x00004022 0xFFFF 0x1 = some (0x00000001, 0) := by decide

theorem test_lt_unsigned : respOf 0x00004122 0xFFFF 0x1 = some (0x00000000, 0) := by decide

theorem test_le_canonicalises : respOf 0x00002023 0x1FF 0xFFFFFFFF = some (0x00000001, 0) := by decide

theorem test_le_equal : respOf 0x00004023 0x5 0x5 = some (0x00000001, 0) := by decide

theorem test_gt_signed : respOf 0x00004024 0xFFFF 0x1 = some (0x00000000, 0) := by decide

theorem test_gt_unsigned : respOf 0x00004124 0xFFFF 0x1 = some (0x00000001, 0) := by decide

theorem test_ge_width_zero : respOf 0x00000025 0x0 0x5 = some (0x00000001, 0) := by decide

theorem test_ge_less : respOf 0x00002125 0x0 0xFF = some (0x00000000, 0) := by decide

theorem test_min_signed : respOf 0x00002028 0x80 0x7F = some (0xFFFFFF80, 0) := by decide

theorem test_min_unsigned : respOf 0x00002128 0xFF 0x1 = some (0x00000001, 0) := by decide

theorem test_max_unsigned : respOf 0x00002129 0x80 0x7F = some (0x00000080, 0) := by decide

theorem test_max_signed : respOf 0x00002029 0xFFFFFF80 0x7F = some (0x0000007F, 0) := by decide

theorem test_avg_wraps_first : respOf 0x0000402A 0x7FFF 0x1 = some (0xFFFFC000, 0) := by decide

theorem test_avg_toward_zero : respOf 0x0000402A 0xFFFFFFFD 0x0 = some (0xFFFFFFFF, 0) := by decide

theorem test_sign_unit_wraps : respOf 0x0007222B 0x5 0x0 = some (0xFFFFFF80, 0) := by decide

theorem test_sign_fixed_unit : respOf 0x0008422B 0xFFFFFF00 0x0 = some (0xFFFFFF00, 0) := by decide

theorem test_abs_signed_min : respOf 0x0000402C 0x8000 0x0 = some (0xFFFF8000, 0) := by decide

theorem test_abs_negative : respOf 0x0000402C 0xFFFFFFFB 0x0 = some (0x00000005, 0) := by decide

theorem test_neg_signed_min : respOf 0x0000402D 0x8000 0x0 = some (0xFFFF8000, 0) := by decide

theorem test_neg_unsigned : respOf 0x0000212D 0x1 0x0 = some (0x000000FF, 0) := by decide

theorem test_copysign_signed_min : respOf 0x0000402E 0x8000 0x1 = some (0xFFFF8000, 0) := by decide

theorem test_copysign_negates : respOf 0x0000402E 0x5 0xFFFFFFFF = some (0xFFFFFFFB, 0) := by decide

theorem test_rev_sign_extends : respOf 0x00002030 0x1 0x0 = some (0xFFFFFF80, 0) := by decide

theorem test_rev_odd_width : respOf 0x00001530 0x3 0x0 = some (0x00000018, 0) := by decide

theorem test_popcnt_canonicalised : respOf 0x00004031 0xFFFF 0x0 = some (0x00000010, 0) := by decide

theorem test_popcnt_full_width : respOf 0x00008031 0xFFFFFFFF 0x0 = some (0x00000020, 0) := by decide

theorem test_parity_odd : respOf 0x00002132 0x7 0x0 = some (0x00000001, 0) := by decide

theorem test_parity_even : respOf 0x00002132 0x3 0x0 = some (0x00000000, 0) := by decide

theorem test_clz_counts : respOf 0x00004133 0x1 0x0 = some (0x0000000F, 0) := by decide

theorem test_clz_width_zero : respOf 0x00000133 0x0 0x0 = some (0x00000000, 0) := by decide

theorem test_ctz_counts : respOf 0x00004034 0x8000 0x0 = some (0x0000000F, 0) := by decide

theorem test_ctz_zero : respOf 0x00002134 0x0 0x0 = some (0x00000008, 0) := by decide

theorem test_bsr_index : respOf 0x00004135 0x100 0x0 = some (0x00000008, 0) := by decide

theorem test_bsr_zero : respOf 0x00004135 0x0 0x0 = some (0xFFFFFFFF, 0) := by decide

theorem test_bsf_index : respOf 0x00004136 0x180 0x0 = some (0x00000007, 0) := by decide

theorem test_bsf_width_zero : respOf 0x00000036 0x0 0x0 = some (0xFFFFFFFF, 0) := by decide

theorem test_zero_width_zero : respOf 0x00000038 0x0 0x0 = some (0xFFFFFFFF, 0) := by decide

theorem test_one_unit_wraps : respOf 0x00072239 0x0 0x0 = some (0xFFFFFF80, 0) := by decide

theorem test_one_all_fraction : respOf 0x00104239 0x0 0x0 = some (0x00000000, 0) := by decide

theorem test_lsb_wraps : respOf 0x0000043A 0x0 0x0 = some (0xFFFFFFFF, 0) := by decide

theorem test_half_sign_bit : respOf 0x0008223B 0x0 0x0 = some (0xFFFFFF80, 0) := by decide

theorem test_half_width_zero : respOf 0x0000003B 0x0 0x0 = some (0xFFFFFFFF, 0) := by decide

theorem test_allones_signed : respOf 0x0000203C 0x0 0x0 = some (0xFFFFFFFF, 0) := by decide

theorem test_allones_unsigned : respOf 0x0000213C 0x0 0x0 = some (0x000000FF, 0) := by decide

theorem test_msb_signed : respOf 0x0000203D 0x0 0x0 = some (0xFFFFFF80, 0) := by decide

theorem test_msb_width_zero : respOf 0x0000013D 0x0 0x0 = some (0x00000000, 0) := by decide

theorem test_minval_signed : respOf 0x0000403E 0x0 0x0 = some (0xFFFF8000, 0) := by decide

theorem test_minval_width_zero : respOf 0x0000003E 0x0 0x0 = some (0xFFFFFFFF, 0) := by decide

theorem test_maxval_unsigned : respOf 0x0000813F 0x0 0x0 = some (0xFFFFFFFF, 0) := by decide

theorem test_maxval_width_zero : respOf 0x0000003F 0x0 0x0 = some (0xFFFFFFFF, 0) := by decide

theorem test_bit_sign_bit : respOf 0x00002040 0x7 0x0 = some (0xFFFFFF80, 0) := by decide

theorem test_bit_index_is_width : respOf 0x00002140 0x8 0x0 = some (0x00000000, 2) := by decide

theorem test_fraction_truncates : respOf 0x00084241 0xFFFFFFFF 0x3 = some (0xFFFFFFAB, 0) := by decide

theorem test_fraction_zero_denominator : respOf 0x00084241 0x1 0x0 = some (0x00000000, 3) := by decide

theorem test_tobytes_pattern : respOf 0x00003044 0xFFFFFFFF 0x0 = some (0x00000FFF, 0) := by decide

theorem test_frombytes_sign_extends : respOf 0x00003045 0x800 0x2 = some (0xFFFFF800, 0) := by decide

theorem test_frombytes_wrong_length : respOf 0x00003045 0xFFF 0x3 = some (0x00000000, 1) := by decide

theorem test_getbyte_top_byte : respOf 0x00003046 0xFFFFFFFF 0x1 = some (0x0000000F, 0) := by decide

theorem test_getbyte_negative_index : respOf 0x00004046 0x1234 0xFFFFFFFF = some (0x00000000, 2) := by decide

theorem test_setbyte_top_byte : respOf 0x00003047 0x0 0x1FF = some (0xFFFFFF00, 0) := by decide

theorem test_setbyte_negative_index : respOf 0x00004147 0x1234 0xFFFFFFAB = some (0x00000000, 2) := by decide

theorem test_convert_floors : respOf 0x00084248 0xFFFFFE80 0x2000 = some (0xFFFFFFFE, 0) := by decide

theorem test_convert_reserved_bit : respOf 0x00002048 0x1 0x2080 = some (0x00000000, 5) := by decide

theorem test_convfrac_wraps : respOf 0x00084249 0x7FFF 0xC = some (0xFFFFFFF0, 0) := by decide

theorem test_convfrac_over_width : respOf 0x00084249 0x180 0x11 = some (0x00000000, 4) := by decide

theorem test_sin_half_turn : respOf 0x00003950 0x2001 0x0 = some (0xFFFFFFE7, 0) := by decide

theorem test_sin_interpolates : respOf 0x00005050 0x2AAAA 0x0 = some (0x0000DDB3, 0) := by decide

theorem test_cos_mirror : respOf 0x00004051 0x2000 0x0 = some (0x0000B4F3, 0) := by decide

theorem test_cos_width_zero : respOf 0x00000051 0xFFFFFFFF 0x0 = some (0x00010000, 0) := by decide

theorem test_tan_negative_cosine : respOf 0x00003952 0x1001 0x0 = some (0xF5C28F5D, 0) := by decide

theorem test_tan_negative_sentinel : respOf 0x00004052 0xFFFFC000 0x0 = some (0x80000001, 0) := by decide

theorem test_asin_rounds : respOf 0x00002053 0x40 0x0 = some (0x0000002B, 0) := by decide

theorem test_asin_bottom : respOf 0x00004153 0x0 0x0 = some (0xFFFF8001, 0) := by decide

theorem test_acos_rounds : respOf 0x00084254 0x80 0x0 = some (0x00002AAB, 0) := by decide

theorem test_acos_clamped : respOf 0x00004054 0xFFFF8001 0x0 = some (0x00008000, 0) := by decide

/-! The checks of a command and their order (30_encoding.md R46; 60_exceptions.md R136). -/

theorem test_check_reserved_bit_7 : respOf 0x00004088 0x0 0x0 = some (0x00000000, 5) := by decide

theorem test_check_reserved_bit_22 : respOf 0x00404008 0x0 0x0 = some (0x00000000, 5) := by decide

theorem test_check_convfrac_on_si : respOf 0x00004049 0x0 0x0 = some (0x00000000, 5) := by decide

theorem test_check_width_before_zero_divisor : respOf 0x0000FC0B 0x0 0x0 = some (0x00000000, 4) := by decide

theorem test_check_width_33 : respOf 0x00008408 0x0 0x0 = some (0x00000000, 4) := by decide

theorem test_check_fraction_on_si : respOf 0x00012008 0x0 0x0 = some (0x00000000, 4) := by decide

theorem test_check_fraction_over_width : respOf 0x00092208 0x0 0x0 = some (0x00000000, 4) := by decide

theorem test_check_width_before_range : respOf 0x0000A018 0x1 0x63 = some (0x00000000, 4) := by decide

/-! The two parameters at both their values: vectors of 95_test_vectors.md for 2.5 and −2.5, and for SIN.SI16 at phase 1. -/

theorem test_round_even : scaleAndRound .even false 5 (-1) = 2 ∧ scaleAndRound .even true 5 (-1) = -2 := by decide

theorem test_round_away : scaleAndRound .away false 5 (-1) = 3 ∧ scaleAndRound .away true 5 (-1) = -3 := by decide

theorem test_interpolation_modes : phaseSin .linear 16 1 = 6 ∧ phaseSin .truncate 16 1 = 0 := by decide

theorem test_interpolation_modes_20 : phaseSin .linear 20 0x2AAAA = 0xDDB3 ∧ phaseSin .truncate 20 0x2AAAA = 0xDDAB := by
  decide

/-! Rows of the WidthTable (10_state.md R8) and of the sine table (10_state.md R17). -/

theorem test_width_table :
    (List.range 33).map widthRow =
      [⟨0x00000000, 0x00000000, -1, -1, 0⟩,
       ⟨0x00000001, 0x00000001, -1, 0, 1⟩,
       ⟨0x00000003, 0x00000002, -2, 1, 3⟩,
       ⟨0x00000007, 0x00000004, -4, 3, 7⟩,
       ⟨0x0000000F, 0x00000008, -8, 7, 15⟩,
       ⟨0x0000001F, 0x00000010, -16, 15, 31⟩,
       ⟨0x0000003F, 0x00000020, -32, 31, 63⟩,
       ⟨0x0000007F, 0x00000040, -64, 63, 127⟩,
       ⟨0x000000FF, 0x00000080, -128, 127, 255⟩,
       ⟨0x000001FF, 0x00000100, -256, 255, 511⟩,
       ⟨0x000003FF, 0x00000200, -512, 511, 1023⟩,
       ⟨0x000007FF, 0x00000400, -1024, 1023, 2047⟩,
       ⟨0x00000FFF, 0x00000800, -2048, 2047, 4095⟩,
       ⟨0x00001FFF, 0x00001000, -4096, 4095, 8191⟩,
       ⟨0x00003FFF, 0x00002000, -8192, 8191, 16383⟩,
       ⟨0x00007FFF, 0x00004000, -16384, 16383, 32767⟩,
       ⟨0x0000FFFF, 0x00008000, -32768, 32767, 65535⟩,
       ⟨0x0001FFFF, 0x00010000, -65536, 65535, 131071⟩,
       ⟨0x0003FFFF, 0x00020000, -131072, 131071, 262143⟩,
       ⟨0x0007FFFF, 0x00040000, -262144, 262143, 524287⟩,
       ⟨0x000FFFFF, 0x00080000, -524288, 524287, 1048575⟩,
       ⟨0x001FFFFF, 0x00100000, -1048576, 1048575, 2097151⟩,
       ⟨0x003FFFFF, 0x00200000, -2097152, 2097151, 4194303⟩,
       ⟨0x007FFFFF, 0x00400000, -4194304, 4194303, 8388607⟩,
       ⟨0x00FFFFFF, 0x00800000, -8388608, 8388607, 16777215⟩,
       ⟨0x01FFFFFF, 0x01000000, -16777216, 16777215, 33554431⟩,
       ⟨0x03FFFFFF, 0x02000000, -33554432, 33554431, 67108863⟩,
       ⟨0x07FFFFFF, 0x04000000, -67108864, 67108863, 134217727⟩,
       ⟨0x0FFFFFFF, 0x08000000, -134217728, 134217727, 268435455⟩,
       ⟨0x1FFFFFFF, 0x10000000, -268435456, 268435455, 536870911⟩,
       ⟨0x3FFFFFFF, 0x20000000, -536870912, 536870911, 1073741823⟩,
       ⟨0x7FFFFFFF, 0x40000000, -1073741824, 1073741823, 2147483647⟩,
       ⟨0xFFFFFFFF, 0x80000000, -2147483648, 2147483647, 4294967295⟩] := by decide

theorem test_lut_entries :
    [0, 1, 15, 16, 255, 256, 2047, 2048, 4079, 4085, 4086, 4095].map lut =
      [0, 25, 377, 402, 6399, 6424, 46323, 46341, 65535, 65535, 65536, 65536] := by decide

/-! ### The sequencer: reset, acceptance, waiting, idling (70_reset_and_hazards.md R144 to R147; 60_exceptions.md R143) -/

/-- The state after one step. -/
def after (s : State) : Option State :=
  match step s with
  | .next s' => some s'
  | .fault _ => none
  | .refused _ => none

theorem test_reset_discards_command_in_progress :
    after ⟨true, 7, 2, some ⟨⟨0x00004008, 1, 2⟩, 3⟩, [.reset none]⟩ = some State.reset := by decide

theorem test_reset_discards_issued_command :
    after ⟨true, 7, 2, none, [.reset (some ⟨0x00004008, 1, 2⟩)]⟩ = some State.reset := by decide

theorem test_command_waits_while_busy :
    after ⟨false, 7, 2, some ⟨⟨0x00004008, 1, 2⟩, 3⟩, [.issue ⟨0x00004009, 1, 2⟩]⟩ =
      some ⟨false, 7, 2, some ⟨⟨0x00004008, 1, 2⟩, 2⟩, [.issue ⟨0x00004009, 1, 2⟩]⟩ := by decide

theorem test_completion_sets_rvalid :
    after ⟨false, 7, 2, some ⟨⟨0x00004008, 1, 2⟩, 0⟩, []⟩ = some ⟨true, 3, 0, none, []⟩ := by decide

theorem test_acceptance_clears_rvalid :
    (after ⟨true, 7, 2, none, [.issue ⟨0x00004008, 1, 2⟩]⟩).map (fun s => (s.rvalid, s.inputs)) = some (false, []) := by
  decide

theorem test_idle_holds_response :
    after ⟨true, 7, 2, none, [.idle]⟩ = some ⟨true, 7, 2, none, []⟩ := by decide

/-! ### Witnesses: each obligation's hypotheses are met, at the boundaries of its clauses -/

/-- A state with a command in progress that has no cycle left, while the host already presents the next. -/
def busyState : State :=
  { State.reset with inProgress := some ⟨⟨0x00004008, 0x7FFF, 1⟩, 0⟩, inputs := [.issue ⟨0x00004008, 1, 2⟩] }

theorem witness_DecodeOfEncodeGivesTheInstruction :
    (Instr.add ⟨.si, 63, 63⟩ 1 2).definedForKind = true ∧ (Instr.convfrac ⟨.fx, 16, 8⟩ 1 2).definedForKind = true := by decide

theorem witness_DecodedCommandIsTheEncodersCommand :
    decode ⟨0x00002117, 0xF, 5⟩ = .ok (.bnot ⟨.ui, 8, 0⟩ 0xF) := by decide

/-- Each way for a command word to be illegal, and one legal word. -/
theorem witness_ExactlyTheIllegalCommandWordsRaiseIllegalCommand :
    (0x00004088 : Word).toNat / 2 ^ 7 % 2 ≠ 0 ∧ (0x00404008 : Word).toNat / 2 ^ 22 ≠ 0 ∧
      (0x00004007 : Word).toNat % 2 ^ 7 = 0x07 ∧ (0x00004055 : Word).toNat % 2 ^ 7 = 0x55 ∧
      ((0x00004149 : Word).toNat % 2 ^ 7 = 0x49 ∧ (0x00004149 : Word).toNat / 2 ^ 9 % 2 = 0) ∧
      ((0x00084249 : Word).toNat % 2 ^ 7 = 0x49 ∧ (0x00084249 : Word).toNat / 2 ^ 9 % 2 ≠ 0) := by decide

theorem witness_ResponseDependsOnTheCommandAlone :
    decode ⟨0x00002117, 0xF, 5⟩ = .ok (.bnot ⟨.ui, 8, 0⟩ 0xF) ∧
      decode ⟨0x00004000, 0xF, 5⟩ = .error .unassignedOpcode := by decide

theorem witness_StepRunsTheDecodedInstruction :
    busyState.inProgress = some ⟨⟨0x00004008, 0x7FFF, 1⟩, 0⟩ ∧ (∀ o rest, busyState.inputs ≠ .reset o :: rest) ∧
      decode ⟨0x00004008, 0x7FFF, 1⟩ = .ok (.add ⟨.si, 16, 0⟩ 0x7FFF 1) ∧
      busyState.inputs = .issue ⟨0x00004008, 1, 2⟩ :: [] :=
  ⟨rfl, fun _ _ h => HostInput.noConfusion (List.cons.inj h).1, by decide, rfl⟩

theorem witness_ResetCycleDiscardsEverything :
    ({ busyState with inputs := [.reset (some ⟨0x00004008, 1, 2⟩)] } : State).inputs =
      .reset (some ⟨0x00004008, 1, 2⟩) :: [] := rfl

theorem witness_AcceptingACommandClearsRvalid :
    ({ State.reset with rvalid := true, r := 7, inputs := [.issue ⟨0x00004008, 1, 2⟩] } : State).inProgress = none ∧
      ({ State.reset with rvalid := true, r := 7, inputs := [.issue ⟨0x00004008, 1, 2⟩] } : State).inputs =
        .issue ⟨0x00004008, 1, 2⟩ :: [] := ⟨rfl, rfl⟩

theorem witness_IdleUnitHoldsItsLastResponse :
    State.reset.inProgress = none ∧ State.reset.inputs = [] ∧
      ({ State.reset with rvalid := true, r := 7, inputs := [.idle] } : State).inProgress = none ∧
      ({ State.reset with rvalid := true, r := 7, inputs := [.idle] } : State).inputs = .idle :: [] := ⟨rfl, rfl, rfl, rfl⟩

theorem witness_ResponseAppearsLatencyCyclesAfterAcceptance :
    ({ State.reset with inputs := [.issue ⟨0x00004008, 1, 2⟩, .issue ⟨0x00004009, 1, 2⟩] } : State).inProgress = none ∧
      ({ State.reset with inputs := [.issue ⟨0x00004008, 1, 2⟩, .issue ⟨0x00004009, 1, 2⟩] } : State).inputs =
        .issue ⟨0x00004008, 1, 2⟩ :: [.issue ⟨0x00004009, 1, 2⟩] ∧
      ∃ c' rest', [HostInput.issue ⟨0x00004009, 1, 2⟩] = .issue c' :: rest' := ⟨rfl, rfl, _, _, rfl⟩

theorem witness_EveryStepKeepsTheLatchSound : State.reset.latchSound ∧ step State.reset = .next State.reset :=
  ⟨⟨by decide, fun h => Bool.noConfusion h, fun h => absurd rfl h⟩, rfl⟩

theorem witness_IllegalTypeRaisesUnsupportedWidth :
    ∀ t ∈ [(⟨.si, 33, 0⟩ : Ty), ⟨.ui, 32, 1⟩, ⟨.fx, 31, 32⟩, ⟨.ufx, 0, 1⟩],
      (Instr.add t 0 0).definedForKind = true ∧
        ¬(t.n.toNat ≤ 32 ∧ ((t.kind = .si ∨ t.kind = .ui) → t.f.toNat = 0) ∧
          ((t.kind = .fx ∨ t.kind = .ufx) → t.f.toNat ≤ t.n.toNat)) := by decide

theorem witness_WrapIsTheCongruentCanonicalValue :
    (⟨.si, 16, 0⟩ : Ty).wellFormed = true ∧ canonical ⟨.si, 16, 0⟩ (-32768) = true ∧
      (2 : Int) ^ (⟨.si, 16, 0⟩ : Ty).n.toNat ∣ -32768 - 32768 := by decide

theorem witness_CanonicalOperandIsReadBack :
    (⟨.si, 8, 0⟩ : Ty).wellFormed = true ∧ canonical ⟨.si, 8, 0⟩ (-128) = true ∧
      (0x180 : Word).toNat % 2 ^ (⟨.si, 8, 0⟩ : Ty).n.toNat = (0x80 : Word).toNat % 2 ^ (⟨.si, 8, 0⟩ : Ty).n.toNat := by decide

/-- The types at the bounds of R40 are legal: the one hypothesis of the obligations that follow it in the list below, and the first
one of the others. -/
theorem legal_types :
    ∀ t ∈ [(⟨.si, 0, 0⟩ : Ty), ⟨.si, 32, 0⟩, ⟨.ui, 0, 0⟩, ⟨.ui, 32, 0⟩, ⟨.fx, 0, 0⟩, ⟨.fx, 32, 32⟩, ⟨.ufx, 32, 0⟩,
      ⟨.ufx, 32, 32⟩], t.wellFormed = true := by decide

theorem witness_FromrawAndFromintResults : (⟨.fx, 16, 8⟩ : Ty).wellFormed = true := by decide

theorem witness_FloatConstructionResults : (⟨.fx, 16, 8⟩ : Ty).wellFormed = true := by decide

/-- A tie: 5 / 2 under both rules. -/
theorem witness_FloatRoundingIsToNearest :
    |((scaleAndRound .even false 5 (-1) : Int) : ℚ) - (if false then -1 else 1) * (5 : Nat) * 2 ^ (-1 : Int)| = 1 / 2 ∧
      |((scaleAndRound .away false 5 (-1) : Int) : ℚ) - (if false then -1 else 1) * (5 : Nat) * 2 ^ (-1 : Int)| = 1 / 2 := by
  rw [test_round_even.1, test_round_away.1]
  norm_num [abs_of_pos, abs_of_neg]

theorem witness_AddSubMulResults : (⟨.fx, 16, 8⟩ : Ty).wellFormed = true := by decide

theorem witness_DivModResults :
    (⟨.si, 16, 0⟩ : Ty).wellFormed = true ∧ val ⟨.si, 16, 0⟩ 1 ≠ 0 ∧ val ⟨.si, 16, 0⟩ 0x10000 = 0 := by decide

theorem witness_SignedMinDividedByMinusOneWraps :
    1 ≤ (1 : BitVec 6).toNat ∧ (32 : BitVec 6).toNat ≤ 32 ∧
      val ⟨.si, 1, 0⟩ 1 = -2 ^ ((1 : BitVec 6).toNat - 1) ∧ val ⟨.si, 1, 0⟩ 1 = -1 ∧
      val ⟨.si, 32, 0⟩ 0x80000000 = -2 ^ ((32 : BitVec 6).toNat - 1) ∧ val ⟨.si, 32, 0⟩ 0xFFFFFFFF = -1 := by decide

theorem witness_DivAndModRecomposeTheDividend :
    (⟨.si, 8, 0⟩ : Ty).wellFormed = true ∧ (⟨.si, 8, 0⟩ : Ty).kind = .si ∧ val ⟨.si, 8, 0⟩ 2 ≠ 0 ∧
      canonical ⟨.si, 8, 0⟩ ((val ⟨.si, 8, 0⟩ 0xF9).tdiv (val ⟨.si, 8, 0⟩ 2)) = true := by decide

theorem witness_SaturatingResultsAreClamped : (⟨.fx, 16, 8⟩ : Ty).wellFormed = true := by decide

theorem witness_PowerOfTwoResults :
    (⟨.si, 16, 0⟩ : Ty).wellFormed = true ∧ (16 : Word).toInt = (16 : Nat) ∧ 16 ≤ (⟨.si, 16, 0⟩ : Ty).n.toNat ∧
      ((⟨.si, 16, 0⟩ : Ty).n.toNat : Int) < (17 : Word).toInt ∧ (0xFFFFFFFF : Word).toInt < 0 := by decide

theorem witness_LogicResultsBitByBit : (⟨.si, 8, 0⟩ : Ty).wellFormed = true := by decide

theorem witness_ShiftResults :
    (⟨.si, 16, 0⟩ : Ty).wellFormed = true ∧ (15 : Word).toInt = (15 : Nat) ∧ 15 < (⟨.si, 16, 0⟩ : Ty).n.toNat ∧
      ((⟨.si, 16, 0⟩ : Ty).n.toNat : Int) ≤ (16 : Word).toInt ∧ (0xFFFFFFFF : Word).toInt < 0 := by decide

theorem witness_RotateResultsBitByBit :
    (⟨.si, 5, 0⟩ : Ty).wellFormed = true ∧ (7 : Word).toInt = (7 : Nat) ∧ (0xFFFFFFFF : Word).toInt < 0 := by decide

theorem witness_RotatesAreInverse : (⟨.si, 5, 0⟩ : Ty).wellFormed = true ∧ 0 ≤ (7 : Word).toInt := by decide

theorem witness_ComparisonResults : (⟨.si, 8, 0⟩ : Ty).wellFormed = true := by decide

theorem witness_UtilityResults : (⟨.fx, 16, 8⟩ : Ty).wellFormed = true := by decide

theorem witness_SignedMinIsItsOwnMagnitude :
    (⟨.fx, 16, 8⟩ : Ty).wellFormed = true ∧ (⟨.fx, 16, 8⟩ : Ty).kind = .fx ∧ 1 ≤ (⟨.fx, 16, 8⟩ : Ty).n.toNat ∧
      val ⟨.fx, 16, 8⟩ 0x8000 = -2 ^ ((⟨.fx, 16, 8⟩ : Ty).n.toNat - 1) := by decide

theorem witness_ReverseMirrorsTheBits : (⟨.si, 8, 0⟩ : Ty).wellFormed = true := by decide

theorem witness_PopulationCountAndParityResults : (⟨.si, 8, 0⟩ : Ty).wellFormed = true := by decide

theorem witness_BitScansOfZero :
    (⟨.si, 8, 0⟩ : Ty).wellFormed = true ∧ ∀ i < (⟨.si, 8, 0⟩ : Ty).n.toNat, (0x100 : Word).getLsbD i = false := by decide

theorem witness_BitScansOfNonzero :
    (⟨.ui, 8, 0⟩ : Ty).wellFormed = true ∧ 6 < (⟨.ui, 8, 0⟩ : Ty).n.toNat ∧ (0x150 : Word).getLsbD 6 = true ∧
      (∀ i < (⟨.ui, 8, 0⟩ : Ty).n.toNat, 6 < i → (0x150 : Word).getLsbD i = false) ∧
      4 < (⟨.ui, 8, 0⟩ : Ty).n.toNat ∧ (0x150 : Word).getLsbD 4 = true ∧ ∀ i < 4, (0x150 : Word).getLsbD i = false := by
  decide

theorem witness_ConstantResults : ∀ k ∈ [Kind.si, .ui, .fx, .ufx], (⟨k, 8, 0⟩ : Ty).wellFormed = true := by decide

theorem witness_MinvalAndMaxvalAreTheExtremes : (⟨.si, 8, 0⟩ : Ty).wellFormed = true := by decide

theorem witness_BitAndFractionResults :
    (⟨.si, 8, 0⟩ : Ty).wellFormed = true ∧ (7 : Word).toInt = (7 : Nat) ∧ 7 < (⟨.si, 8, 0⟩ : Ty).n.toNat ∧
      ((⟨.si, 8, 0⟩ : Ty).n.toNat : Int) ≤ (8 : Word).toInt ∧ (0xFFFFFFFF : Word).toInt < 0 ∧ (0 : Word).toInt = 0 := by
  decide

theorem witness_ByteImageResults :
    (⟨.si, 12, 0⟩ : Ty).wellFormed = true ∧ (2 : Word).toInt = (((⟨.si, 12, 0⟩ : Ty).n.toNat + 7) / 8 : Nat) ∧
      (3 : Word).toInt ≠ (((⟨.si, 12, 0⟩ : Ty).n.toNat + 7) / 8 : Nat) ∧
      (1 : Word).toInt = (1 : Nat) ∧ 1 < ((⟨.si, 12, 0⟩ : Ty).n.toNat + 7) / 8 ∧ (0xFFFFFFFF : Word).toInt < 0 := by decide

theorem witness_SetbyteResultsBitByBit :
    (⟨.si, 12, 0⟩ : Ty).wellFormed = true ∧ ((0x1FF : Word).extractLsb' 8 24).toInt = (1 : Nat) ∧
      1 < ((⟨.si, 12, 0⟩ : Ty).n.toNat + 7) / 8 ∧
      ((((⟨.si, 12, 0⟩ : Ty).n.toNat + 7) / 8 : Nat) : Int) ≤ ((0x2FF : Word).extractLsb' 8 24).toInt ∧
      ((0xFFFFFFAB : Word).extractLsb' 8 24).toInt < 0 := by decide

theorem witness_FrombytesUndoesTobytes :
    (⟨.si, 12, 0⟩ : Ty).wellFormed = true ∧ (2 : Word).toNat = ((⟨.si, 12, 0⟩ : Ty).n.toNat + 7) / 8 := by decide

theorem witness_ConvertResults :
    (⟨.fx, 16, 8⟩ : Ty).wellFormed = true ∧ (0x2080 : Word).toNat % 2 ^ 8 ≠ 0 ∧ (0x402000 : Word).toNat / 2 ^ 22 ≠ 0 ∧
      (0x8400 : Word) = descriptor ⟨.si, 33, 0⟩ ∧ (⟨.si, 33, 0⟩ : Ty).wellFormed = false ∧
      (0x108200 : Word) = descriptor ⟨.fx, 32, 16⟩ ∧ (⟨.fx, 32, 16⟩ : Ty).wellFormed = true ∧
      (⟨.fx, 32, 16⟩ : Ty).f.toNat = (⟨.fx, 16, 8⟩ : Ty).f.toNat + 8 ∧
      (0x2000 : Word) = descriptor ⟨.si, 8, 0⟩ ∧ (⟨.si, 8, 0⟩ : Ty).wellFormed = true ∧
      (⟨.fx, 16, 8⟩ : Ty).f.toNat = (⟨.si, 8, 0⟩ : Ty).f.toNat + 8 := by decide

theorem witness_ConvfracIsConvertToTheNewFraction :
    (⟨.ui, 16, 0⟩ : Ty).kind = .ui ∧ (⟨.fx, 16, 8⟩ : Ty).kind = .fx ∧ (⟨.fx, 16, 8⟩ : Ty).wellFormed = true ∧
      (0xFFFFFFFF : Word).toInt < 0 ∧ ((⟨.fx, 16, 8⟩ : Ty).n.toNat : Int) < (17 : Word).toInt ∧
      (16 : Word).toInt = (16 : BitVec 6).toNat ∧ (16 : BitVec 6).toNat ≤ (⟨.fx, 16, 8⟩ : Ty).n.toNat := by decide

theorem witness_TableEntriesAreRoundedSines : 4095 ≤ 4095 := by decide

theorem witness_TableIsNonDecreasing : 4086 ≤ 4086 ∧ 4086 ≤ 4095 := by decide

theorem witness_SinFollowsTheSixSteps :
    ∀ t ∈ [(⟨.ui, 2, 0⟩ : Ty), ⟨.fx, 14, 14⟩], t.wellFormed = true ∧ 2 ≤ t.n.toNat ∧ t.n.toNat ≤ 14 := by decide

theorem witness_SinInterpolatesAboveFourteenBits :
    ∀ t ∈ [(⟨.ui, 15, 0⟩ : Ty), ⟨.si, 32, 0⟩], t.wellFormed = true ∧ 14 < t.n.toNat := by decide

theorem witness_CosIsSinAQuarterTurnOn :
    (⟨.si, 16, 0⟩ : Ty).wellFormed = true ∧ 2 ≤ (⟨.si, 16, 0⟩ : Ty).n.toNat ∧
      (0x3FFF : Word).toNat % 2 ^ (⟨.si, 16, 0⟩ : Ty).n.toNat =
        ((0xFFFF : Word).toNat + 2 ^ ((⟨.si, 16, 0⟩ : Ty).n.toNat - 2)) % 2 ^ (⟨.si, 16, 0⟩ : Ty).n.toNat := by decide

theorem witness_SinAndCosBelowTwoBits :
    (⟨.ui, 0, 0⟩ : Ty).wellFormed = true ∧ (⟨.ui, 0, 0⟩ : Ty).n.toNat = 0 ∧ (⟨.si, 1, 0⟩ : Ty).wellFormed = true ∧
      (⟨.si, 1, 0⟩ : Ty).n.toNat = 1 := by decide

theorem witness_TanResults :
    (⟨.si, 16, 0⟩ : Ty).wellFormed = true ∧ respOf 0x00004051 0x4000 0 = some (0, 0) := by decide

theorem witness_RatioIsRoundedToTheGrid :
    (⟨.si, 2, 0⟩ : Ty).wellFormed = true ∧ 2 ≤ (⟨.si, 2, 0⟩ : Ty).n.toNat ∧ canonical ⟨.si, 2, 0⟩ (-2) = true := by decide

/-- A tie of the ratio mapper (FX with F ≥ 17): 1 / 2^17 on the grid of 1 / 2^16 is 1/2, and goes to 1. -/
theorem test_ratio_tie : ratioQ16 ⟨.fx, 32, 17⟩ 1 = 1 ∧ ratioQ16 ⟨.fx, 32, 17⟩ (-1) = -1 := by decide

theorem witness_AsinAndAcosResults :
    (⟨.si, 1, 0⟩ : Ty).wellFormed = true ∧ (⟨.si, 1, 0⟩ : Ty).n.toNat < 2 ∧ (⟨.si, 2, 0⟩ : Ty).wellFormed = true ∧
      2 ≤ (⟨.si, 2, 0⟩ : Ty).n.toNat := by decide

theorem witness_AsinAngleIsTheRealArcsine : 2 ≤ 32 ∧ 32 ≤ 32 ∧ (-65536 : Int) ≤ 65536 ∧ (65536 : Int) ≤ 65536 := by decide

theorem witness_AcosAngleIsTheRealArccosine : 2 ≤ 2 ∧ 2 ≤ 32 ∧ (-65536 : Int) ≤ -65536 ∧ (-65536 : Int) ≤ 65536 := by decide

theorem witness_AsinIsMonotoneAndAcosAntitone :
    (⟨.si, 2, 0⟩ : Ty).wellFormed = true ∧ 2 ≤ (⟨.si, 2, 0⟩ : Ty).n.toNat ∧
      val ⟨.si, 2, 0⟩ 2 ≤ val ⟨.si, 2, 0⟩ 1 := by decide

end Sys2Proof.Tests
end

section
/-! SUPPORT. A command only delivers a result that its words fix, into the response latch (10_state.md R23, 20_memory.md R31): the
frame of all 64 instructions, and the soundness of the latch that follows from it. -/

namespace Sys2Proof.Machine

/-- The latch contents (R, ERR) of a result (60_exceptions.md R129, R130). -/
def responseOf : Result → Word × BitVec 3
  | .ok v => (word v, 0)
  | .error e => (0, e.code)

/-- Delivering a result writes the three fields of the latch and no other. -/
theorem deliver_eq_responseOf (s : State) (result : Result) :
    s.deliver result = { s with rvalid := true, r := (responseOf result).1, err := (responseOf result).2 } := by
  cases result <;> rfl

/-- What `perform` delivers does not depend on the state. -/
theorem perform_delivers (t : Ty) (result : Result) :
    ∃ delivered : Result, ∀ s, perform t result s = .next (s.deliver delivered) := by
  cases h : t.wellFormed with
  | true => exact ⟨result, perform_legal h result⟩
  | false => exact ⟨.error .unsupportedWidth, perform_illegal h result⟩

/-- Every instruction delivers one result, whatever the state. All but CONVFRAC are one `perform`; CONVFRAC first checks its kind
(30_encoding.md R42). -/
theorem exec_delivers (i : Instr) : ∃ result : Result, ∀ s, exec i s = .next (s.deliver result) := by
  cases i with
  | convfrac t a b =>
    cases h : t.kind.isFixed with
    | true => simpa [exec, execConvfrac, h] using perform_delivers t (convfracResult t a b)
    | false => exact ⟨.error .illegalCommand, fun s => by simp [exec, execConvfrac, h]⟩
  | _ => exact perform_delivers _ _

theorem completeCommand_of_decoded {c : Command} {i : Instr} (h : decode c = .ok i) (s : State) :
    completeCommand c s = exec i s := by
  simp [completeCommand, h]

theorem completeCommand_of_not_decoded {c : Command} (h : ∀ i, decode c ≠ .ok i) (s : State) :
    completeCommand c s = .next (s.raise .illegalCommand) := by
  cases hd : decode c with
  | ok i => exact absurd hd (h i)
  | error e => simp [completeCommand, hd]

/-- Completing a command delivers one result, whatever the state, also where the command is not decoded. -/
theorem completeCommand_delivers (c : Command) :
    ∃ result : Result, ∀ s, completeCommand c s = .next (s.deliver result) := by
  by_cases h : ∃ i, decode c = .ok i
  · obtain ⟨i, hi⟩ := h
    simpa only [completeCommand_of_decoded hi] using exec_delivers i
  · exact ⟨.error .illegalCommand, completeCommand_of_not_decoded (not_exists.mp h)⟩

/-- Everything a step can do to the latch: a reset cycle clears it, a waiting cycle leaves it, the cycle that completes a command
delivers a result into it, accepting a command clears RVALID, and an idle cycle leaves it. -/
theorem step_cases {s s' : State} (h : step s = .next s') :
    (∃ rest, s' = { s with inputs := rest }.clear) ∨
      (∃ p q rest, s.inProgress = some p ∧ s' = { s with inProgress := some q, inputs := rest }) ∨
      (∃ result rest, s' = { s with inProgress := none, inputs := rest }.deliver result) ∨
      (∃ c rest, s' = { s with inputs := rest }.accept c) ∨
      (s.inProgress = none ∧ ∃ rest, s' = { s with inputs := rest }) := by
  unfold step at h
  obtain ⟨_, rest, _, hc⟩ | ⟨_, ⟨p, hp, hc⟩ | ⟨hp, hc⟩⟩ := cycle_cases s <;> rw [hc] at h
  case inl => exact .inl ⟨rest, (Host.Outcome.next.inj h).symm⟩
  case inr.inl =>
    obtain ⟨_, hb⟩ | ⟨k, _, hb⟩ := busyCycle_cases s p <;> rw [hb] at h
    · obtain ⟨result, hr⟩ := completeCommand_delivers p.command
      exact .inr (.inr (.inl ⟨result, _, (Host.Outcome.next.inj ((hr _).symm.trans h)).symm⟩))
    · exact .inr (.inl ⟨p, _, _, hp, (Host.Outcome.next.inj h).symm⟩)
  case inr.inr =>
    obtain ⟨c, rest, _, hr⟩ | ⟨_, rest, _, _, hr⟩ | ⟨_, hr⟩ := readyCycle_cases s <;> rw [hr] at h
    · exact .inr (.inr (.inr (.inl ⟨c, rest, (Host.Outcome.next.inj h).symm⟩)))
    · exact .inr (.inr (.inr (.inr ⟨hp, rest, (Host.Outcome.next.inj h).symm⟩)))
    · exact .inr (.inr (.inr (.inr ⟨hp, s.inputs, (Host.Outcome.next.inj h).symm⟩)))

/-- A delivered response leaves a sound latch when no command is left in progress. -/
theorem latchSound_deliver {s : State} (h : s.inProgress = none) (result : Result) : (s.deliver result).latchSound := by
  obtain ⟨_, herr, hzero, hprogress, _⟩ := deliver_spec s result
  exact ⟨herr, fun _ => hzero, fun hne => absurd (hprogress.trans h) hne⟩

/-- Settles O15, along the five things a step can do. -/
theorem everyStepKeepsTheLatchSound : Obligations.EveryStepKeepsTheLatchSound := by
  rintro s s' ⟨herr, hzero, hbusy⟩ hstep
  obtain ⟨rest, rfl⟩ | ⟨p, q, rest, hp, rfl⟩ | ⟨result, rest, rfl⟩ | ⟨c, rest, rfl⟩ | ⟨hp, rest, rfl⟩ := step_cases hstep
  · simp [State.latchSound]
  · exact ⟨herr, hzero, fun _ => hbusy (by simp [hp])⟩
  · exact latchSound_deliver rfl result
  · simpa [State.latchSound] using herr
  · exact ⟨herr, hzero, hbusy⟩

/-- Settles O13: the response is that of the result which `exec_delivers` gives for the instruction. -/
theorem responseDependsOnTheCommandAlone : Obligations.ResponseDependsOnTheCommandAlone := by
  choose result hexec using exec_delivers
  have hframe (i : Instr) (s : State) := (hexec i s).trans (congrArg _ (deliver_eq_responseOf s (result i)))
  refine ⟨fun i => responseOf (result i), hframe, fun c s => ⟨fun i hi => ?_, fun hd => ?_⟩⟩
  · exact (completeCommand_of_decoded hi s).trans (hframe i s)
  · exact completeCommand_of_not_decoded hd s

end Sys2Proof.Machine
end

section
/-! SUPPORT. Canonical values (10_state.md R9 to R15): `wrap` keeps a value's residue modulo 2^N and lands among the canonical
values, and a canonical value is fixed by its residue. -/

namespace Sys2Proof.Machine

/-- Below a modulus, residues are told apart: two numbers in an interval of that length which are congruent are equal. -/
theorem eq_of_dvd_sub_of_window {m a v w : Int} (hv : a ≤ v ∧ v < a + m) (hw : a ≤ w ∧ w < a + m) (h : m ∣ w - v) :
    w = v := by
  have := Int.eq_zero_of_abs_lt_dvd h (abs_lt.mpr ⟨by omega, by omega⟩)
  omega

/-- The canonical values of a type are 2^N consecutive integers. -/
theorem canonical_iff (t : Ty) (v : Int) : canonical t v = true ↔ lo t ≤ v ∧ v < lo t + ((2 ^ width t : Nat) : Int) := by
  have hp := two_pow_pos (width t)
  simp only [canonical, Bool.and_eq_true, decide_eq_true_eq, and_congr_right_iff]
  intro _
  have hhi : hi t = lo t + ((2 ^ width t : Nat) : Int) - 1 := by
    cases hk : t.kind.isUnsigned
    · cases hn : width t with
      | zero => simp [lo, hi, hk, hn, signedMin, signedMax]
      | succ n =>
        have := two_pow_succ_cast n
        simp only [lo, hi, hk, hn, signedMin, signedMax, Nat.add_one_ne_zero, Nat.add_sub_cancel, if_false, Bool.false_eq_true]
        omega
    · simp only [lo, hi, hk, unsignedMax, mask, if_true]
      omega
  omega

/-- `wrap` gives a canonical value of the same residue (10_state.md R11, R15). -/
theorem wrap_spec (t : Ty) (v : Int) :
    canonical t (wrap t v) = true ∧ ((2 ^ width t : Nat) : Int) ∣ wrap t v - v := by
  rw [canonical_iff]
  cases hk : t.kind.isUnsigned
  · simp only [wrap, lo, hk, Bool.false_eq_true, if_false]
    cases hn : width t with
    | zero => simp [signedMin]
    | succ n =>
      obtain ⟨h0, h1, hd⟩ := sext_spec n v
      have := two_pow_succ_cast n
      simp only [signedMin, Nat.add_one_ne_zero, Nat.add_sub_cancel, if_false]
      exact ⟨⟨h0, by omega⟩, hd⟩
  · obtain ⟨h0, h1, hd⟩ := zext_spec (width t) v
    simp only [wrap, lo, hk, if_true, zero_add]
    exact ⟨⟨h0, h1⟩, hd⟩

/-- A canonical value of the same residue is the wrapped one. -/
theorem wrap_unique {t : Ty} {v w : Int} (hw : canonical t w = true) (hd : ((2 ^ width t : Nat) : Int) ∣ w - v) :
    w = wrap t v := by
  obtain ⟨hc, hv⟩ := wrap_spec t v
  refine eq_of_dvd_sub_of_window ((canonical_iff t _).mp hc) ((canonical_iff t w).mp hw) ?_
  simpa using Int.dvd_sub hd hv

/-- `wrap` looks at the residue alone. -/
theorem wrap_congr {t : Ty} {v w : Int} (h : ((2 ^ width t : Nat) : Int) ∣ w - v) : wrap t w = wrap t v := by
  obtain ⟨hc, hw⟩ := wrap_spec t w
  exact wrap_unique hc (by simpa using Int.dvd_add hw h)

/-- The result word of an integer is congruent to it modulo 2^N for a width of at most 32 (10_state.md R14). -/
theorem dvd_word_sub {n : Nat} (hn : n ≤ 32) (v : Int) : ((2 ^ n : Nat) : Int) ∣ ((word v).toNat : Int) - v := by
  have h : ((2 ^ 32 : Nat) : Int) ∣ ((word v).toNat : Int) - v := by
    rw [word, BitVec.toNat_ofInt, Int.toNat_of_nonneg (Int.emod_nonneg _ (by decide))]
    exact (zext_spec 32 v).2.2
  exact (Int.natCast_dvd_natCast.mpr (Nat.pow_dvd_pow 2 hn)).trans h

theorem width_le_of_wellFormed {t : Ty} (h : t.wellFormed = true) : width t ≤ 32 := by
  simp only [Ty.wellFormed, Bool.and_eq_true, decide_eq_true_eq] at h
  exact h.1

/-- Settles O17, from the two halves of the characterisation of `wrap`. -/
theorem wrapIsTheCongruentCanonicalValue : Obligations.WrapIsTheCongruentCanonicalValue := by
  intro t v _
  have hcast : (2 : Int) ^ t.n.toNat = ((2 ^ width t : Nat) : Int) := by simp
  rw [hcast]
  exact ⟨(wrap_spec t v).1, (wrap_spec t v).2, fun w hw hd => wrap_unique hw hd⟩

/-- Settles O18: an operand word counts by its residue modulo 2^N, and the word of a value has the value's. -/
theorem canonicalOperandIsReadBack : Obligations.CanonicalOperandIsReadBack := by
  refine fun t v x y ht => ⟨fun hv => ?_, fun hxy => wrap_congr ?_⟩
  · exact (wrap_congr (dvd_word_sub (width_le_of_wellFormed ht) v)).trans (wrap_unique hv (by simp)).symm
  · exact Int.modEq_iff_dvd.mp (Int.natCast_modEq_iff.mpr hxy.symm)

/-- Settles O19: for N ≥ 1 both readings lie in −2^(N−1)..2^(N−1) − 1 and are congruent to v. -/
theorem signExtensionIsTheTwosComplementReading : Obligations.SignExtensionIsTheTwosComplementReading := by
  intro n v
  cases n with
  | zero => rfl
  | succ n =>
    obtain ⟨h0, h1, hd⟩ := sext_spec n v
    have hpow := two_pow_succ_cast n
    have hlo := BitVec.le_toInt (BitVec.ofInt (n + 1) v)
    have hhi := BitVec.toInt_lt (x := BitVec.ofInt (n + 1) v)
    have hres : ((2 ^ (n + 1) : Nat) : Int) ∣ (BitVec.ofInt (n + 1) v).toInt - v := by
      rw [BitVec.toInt_ofInt]
      exact Int.dvd_bmod_sub_self
    simp only [Nat.add_sub_cancel] at hlo hhi
    rw [if_neg n.succ_ne_zero]
    refine eq_of_dvd_sub_of_window (a := -((2 ^ n : Nat) : Int)) (m := ((2 ^ (n + 1) : Nat) : Int)) ?_ ⟨h0, by omega⟩ ?_
    · push_cast at hpow ⊢
      exact ⟨hlo, by omega⟩
    · simpa using Int.dvd_sub hd hres

end Sys2Proof.Machine
end

section
/-! SUPPORT. The quarter-wave table (10_state.md R17). Entry i is checked against a point that turns along the unit circle in
fixed point, by π/8192 an entry: the rounding errors of 4096 turns stay far below the distance of any entry from a rounding tie. -/

namespace Sys2Proof.Machine

/-! ### The turning point and its check, in natural numbers -/

/-- A point of the first quadrant of the unit circle, in units of 10^−15. -/
structure CirclePoint where
  cosine : Nat
  sine : Nat

namespace CirclePoint

/-- The point turned by about π/8192, whose cosine and sine are 999999926465718 and 383495187571 units. -/
def advance (p : CirclePoint) : CirclePoint where
  cosine := (p.cosine * 999999926465718 - p.sine * 383495187571) / 1000000000000000
  sine := (p.cosine * 383495187571 + p.sine * 999999926465718) / 1000000000000000

/-- The turned point is still in the first quadrant, so that the subtraction in `advance` is exact. -/
def canAdvance (p : CirclePoint) : Bool :=
  (p.sine * 383495187571).ble (p.cosine * 999999926465718)

/-- `y` is 65536 times the point's sine, rounded, and stays so when the point's sine is off by 7·10^−11: the sine is at least
10^10 / (2·10^15) of a table unit away from a tie. -/
def admits (p : CirclePoint) (y : Nat) : Bool :=
  (2 * y * 1000000000000000 + 10000000000).ble (131072 * p.sine + 1000000000000000) &&
    (131072 * p.sine + 10000000000).ble (2 * y * 1000000000000000 + 1000000000000000)

end CirclePoint

/-- Each entry in turn is admitted by the point, which turns once after each entry. -/
def followsCircle : List Nat → CirclePoint → Bool
  | [], _ => true
  | y :: ys, p => p.admits y && p.canAdvance && followsCircle ys p.advance

theorem followsCircle_cons {y : Nat} {ys : List Nat} {p : CirclePoint} (h : followsCircle (y :: ys) p = true) :
    p.admits y = true ∧ p.canAdvance = true ∧ followsCircle ys p.advance = true := by
  simpa only [followsCircle, Bool.and_eq_true, and_assoc] using h

/-- The 4096 entries of the table follow the point from angle 0 on: the one evaluation over the whole table, made by the kernel. -/
theorem lutRows_followCircle : followsCircle lutRows.flatten ⟨1000000000000000, 0⟩ = true := by
  decide +kernel

/-- A row of the table has 16 columns (45_trig_lut_data.md R127). -/
theorem length_of_mem_lutRows : ∀ row ∈ lutRows, row.length = 16 := by
  decide +kernel

/-- In a table of rows of one length, an entry's row and column are the quotient and the remainder of its position. -/
theorem getD_getD_eq_getD_flatten {α : Type} {k : Nat} (hk : 0 < k) (d : α) {rows : List (List α)}
    (hrows : ∀ row ∈ rows, row.length = k) (i : Nat) :
    (rows.getD (i / k) []).getD (i % k) d = rows.flatten.getD i d := by
  induction rows generalizing i with
  | nil => simp
  | cons row rows ih =>
    obtain ⟨hrow, hrest⟩ := List.forall_mem_cons.mp hrows
    rw [List.flatten_cons]
    by_cases hi : i < k
    · rw [Nat.div_eq_of_lt hi, Nat.mod_eq_of_lt hi, List.getD_append _ _ _ _ (hrow.symm ▸ hi)]
      rfl
    · obtain ⟨j, rfl⟩ := Nat.exists_eq_add_of_le (Nat.le_of_not_lt hi)
      rw [List.getD_append_right _ _ _ _ (by omega), hrow, Nat.add_sub_cancel_left, ← ih hrest j,
        Nat.add_div_left _ hk, Nat.add_mod_left]
      rfl

/-- The table read as one list. -/
theorem lut_eq_getD_flatten (i : Nat) : lut i = lutRows.flatten.getD i 0 :=
  getD_getD_eq_getD_flatten (by decide) 0 length_of_mem_lutRows i

theorem length_lutRows_flatten : lutRows.flatten.length = 4096 := by
  decide +kernel

/-! ### The point stays close to the exact circle -/

/-- The fixed-point point as a complex number. -/
noncomputable def CirclePoint.toComplex (p : CirclePoint) : ℂ :=
  ⟨p.cosine / 10 ^ 15, p.sine / 10 ^ 15⟩

/-- The exact turn from one entry to the next: cos (π/8192) + i · sin (π/8192). -/
noncomputable def lutTurn : ℂ :=
  Complex.exp ((Real.pi / 8192 : ℝ) * Complex.I)

/-- The turn that `CirclePoint.advance` makes. -/
noncomputable def lutTurnApprox : ℂ :=
  CirclePoint.toComplex ⟨999999926465718, 383495187571⟩

@[simp] theorem norm_lutTurn : ‖lutTurn‖ = 1 :=
  Complex.norm_exp_ofReal_mul_I _

/-- The sine of entry n's angle is the imaginary part of n turns. -/
theorem lutTurn_pow_im (n : Nat) : (lutTurn ^ n).im = Real.sin ((n : ℝ) / 4096 * (Real.pi / 2)) := by
  rw [lutTurn, ← Complex.exp_nat_mul, ← mul_assoc, ← Complex.ofReal_natCast, ← Complex.ofReal_mul, Complex.exp_ofReal_mul_I_im]
  congr 1
  ring

theorem lutAngle_bounds :
    (0.0003834951969714103 : ℝ) ≤ Real.pi / 8192 ∧ Real.pi / 8192 ≤ 0.0003834951969714104 := by
  have hlo := Real.pi_gt_d20
  have hhi := Real.pi_lt_d20
  constructor <;> linarith

section StepAngle

variable {x : ℝ}

/-- The step angle's cosine to 15 places, from its Taylor polynomial of degree 2. -/
theorem abs_sub_cos_le (hlo : 0.0003834951969714103 ≤ x) (hhi : x ≤ 0.0003834951969714104) :
    |999999926465718 / 10 ^ 15 - Real.cos x| ≤ 3 / 10 ^ 15 := by
  have h0 : 0 ≤ x := le_trans (by norm_num) hlo
  have hcos := Real.cos_bound (abs_le.mpr ⟨by linarith, hhi.trans (by norm_num)⟩)
  rw [abs_of_nonneg h0] at hcos
  obtain ⟨hcos_lo, hcos_hi⟩ := abs_le.mp hcos
  have h2 : 0.0003834951969714103 ^ 2 ≤ x ^ 2 := by gcongr
  have h2' : x ^ 2 ≤ 0.0003834951969714104 ^ 2 := by gcongr
  have h4 : x ^ 4 ≤ 0.0003834951969714104 ^ 4 := by gcongr
  norm_num only at h2 h2' h4
  rw [abs_le]
  constructor <;> linarith

/-- The step angle's sine to 15 places, from its Taylor polynomial of degree 3. -/
theorem abs_sub_sin_le (hlo : 0.0003834951969714103 ≤ x) (hhi : x ≤ 0.0003834951969714104) :
    |383495187571 / 10 ^ 15 - Real.sin x| ≤ 1 / 10 ^ 15 := by
  have h0 : 0 ≤ x := le_trans (by norm_num) hlo
  have hsin := Real.sin_bound (abs_le.mpr ⟨by linarith, hhi.trans (by norm_num)⟩)
  rw [abs_of_nonneg h0] at hsin
  obtain ⟨hsin_lo, hsin_hi⟩ := abs_le.mp hsin
  have h3 : 0.0003834951969714103 ^ 3 ≤ x ^ 3 := by gcongr
  have h3' : x ^ 3 ≤ 0.0003834951969714104 ^ 3 := by gcongr
  have h5 : x ^ 5 ≤ 0.0003834951969714104 ^ 5 := by gcongr
  norm_num only at h3 h3' h5
  rw [abs_le]
  constructor <;> linarith

end StepAngle

/-- The turn made differs from the exact turn by little more than the rounding of its two numbers. -/
theorem norm_lutTurnApprox_sub_lutTurn_le : ‖lutTurnApprox - lutTurn‖ ≤ 4 / 10 ^ 15 := by
  obtain ⟨hlo, hhi⟩ := lutAngle_bounds
  have hre : |(lutTurnApprox - lutTurn).re| ≤ 3 / 10 ^ 15 := by
    simpa only [lutTurn, Complex.sub_re, Complex.exp_ofReal_mul_I_re] using! abs_sub_cos_le hlo hhi
  have him : |(lutTurnApprox - lutTurn).im| ≤ 1 / 10 ^ 15 := by
    simpa only [lutTurn, Complex.sub_im, Complex.exp_ofReal_mul_I_im] using! abs_sub_sin_le hlo hhi
  calc ‖lutTurnApprox - lutTurn‖ ≤ _ := Complex.norm_le_abs_re_add_abs_im _
    _ ≤ 4 / 10 ^ 15 := by linarith

/-- A floor division by the scale is off by at most one unit. -/
theorem abs_scaled_div_sub_le (n : Nat) :
    |((n / 1000000000000000 : Nat) : ℝ) / 10 ^ 15 - (n : ℝ) / 10 ^ 30| ≤ 1 / 10 ^ 15 := by
  have hdiv := Nat.div_add_mod n 1000000000000000
  have hmod := Nat.mod_lt n (show 1000000000000000 > 0 by decide)
  have hdiv' : (1000000000000000 : ℝ) * ((n / 1000000000000000 : Nat) : ℝ) + ((n % 1000000000000000 : Nat) : ℝ) = n := by
    exact_mod_cast hdiv
  have hmod' : ((n % 1000000000000000 : Nat) : ℝ) < 1000000000000000 := by exact_mod_cast hmod
  have hmod0 : (0 : ℝ) ≤ ((n % 1000000000000000 : Nat) : ℝ) := Nat.cast_nonneg _
  rw [abs_le]
  constructor <;> linarith

/-- The product of the point and the turn, in units of 10^−30. -/
theorem toComplex_mul_lutTurnApprox {p : CirclePoint} (h : p.canAdvance = true) :
    p.toComplex * lutTurnApprox =
      ⟨((p.cosine * 999999926465718 - p.sine * 383495187571 : Nat) : ℝ) / 10 ^ 30,
        ((p.cosine * 383495187571 + p.sine * 999999926465718 : Nat) : ℝ) / 10 ^ 30⟩ := by
  rw [Nat.cast_sub (Nat.le_of_ble_eq_true h)]
  apply Complex.ext
  · simp only [CirclePoint.toComplex, lutTurnApprox, Complex.mul_re]
    push_cast
    ring
  · simp only [CirclePoint.toComplex, lutTurnApprox, Complex.mul_im]
    push_cast
    ring

/-- `advance` is the multiplication by the turn, with each coordinate rounded down. -/
theorem norm_advance_sub_mul_le {p : CirclePoint} (h : p.canAdvance = true) :
    ‖p.advance.toComplex - p.toComplex * lutTurnApprox‖ ≤ 2 / 10 ^ 15 := by
  rw [toComplex_mul_lutTurnApprox h]
  calc ‖_‖ ≤ _ := Complex.norm_le_abs_re_add_abs_im _
    _ ≤ 1 / 10 ^ 15 + 1 / 10 ^ 15 := add_le_add (abs_scaled_div_sub_le _) (abs_scaled_div_sub_le _)
    _ = 2 / 10 ^ 15 := by norm_num

/-- One more turn adds at most 10^−14 to the distance from the exact circle. -/
theorem norm_advance_sub_pow_le {p : CirclePoint} {n : Nat} (hcan : p.canAdvance = true) (hn : n ≤ 4096)
    (h : ‖p.toComplex - lutTurn ^ n‖ ≤ n / 10 ^ 14) :
    ‖p.advance.toComplex - lutTurn ^ (n + 1)‖ ≤ (n + 1 : Nat) / 10 ^ 14 := by
  have hp : ‖p.toComplex‖ ≤ 2 := by
    have hn' : (n : ℝ) ≤ 4096 := by exact_mod_cast hn
    have := norm_le_norm_add_norm_sub (lutTurn ^ n) p.toComplex
    rw [norm_sub_rev, norm_pow, norm_lutTurn, one_pow] at this
    linarith
  have hsplit : p.advance.toComplex - lutTurn ^ (n + 1) =
      (p.advance.toComplex - p.toComplex * lutTurnApprox) + p.toComplex * (lutTurnApprox - lutTurn) +
        (p.toComplex - lutTurn ^ n) * lutTurn := by ring
  calc ‖p.advance.toComplex - lutTurn ^ (n + 1)‖
      ≤ ‖p.advance.toComplex - p.toComplex * lutTurnApprox‖ + ‖p.toComplex * (lutTurnApprox - lutTurn)‖ +
          ‖(p.toComplex - lutTurn ^ n) * lutTurn‖ := by rw [hsplit]; exact norm_add₃_le
    _ ≤ 2 / 10 ^ 15 + 2 * (4 / 10 ^ 15) + n / 10 ^ 14 := by
        rw [norm_mul, norm_mul, norm_lutTurn, mul_one]
        gcongr
        · exact norm_advance_sub_mul_le hcan
        · exact norm_lutTurnApprox_sub_lutTurn_le
    _ = (n + 1 : Nat) / 10 ^ 14 := by push_cast; ring

/-! ### The entries -/

/-- An entry admitted by a point close to the n-th exact one is the rounded sine of the n-th angle. -/
theorem round_sine_of_admits {p : CirclePoint} {n y : Nat} (hy : p.admits y = true) (hn : n ≤ 4096)
    (h : ‖p.toComplex - lutTurn ^ n‖ ≤ n / 10 ^ 14) :
    (y : Int) = round (Real.sin ((n : ℝ) / 4096 * (Real.pi / 2)) * 65536) := by
  have him := (Complex.abs_im_le_norm _).trans h
  rw [Complex.sub_im, lutTurn_pow_im, abs_le] at him
  simp only [CirclePoint.toComplex] at him
  obtain ⟨him_lo, him_hi⟩ := him
  simp only [CirclePoint.admits, Bool.and_eq_true, Nat.ble_eq] at hy
  obtain ⟨hlo, hhi⟩ := hy
  have hn' : (n : ℝ) ≤ 4096 := by exact_mod_cast hn
  have hlo' : 2 * (y : ℝ) * 1000000000000000 + 10000000000 ≤ 131072 * p.sine + 1000000000000000 := by exact_mod_cast hlo
  have hhi' : 131072 * (p.sine : ℝ) + 10000000000 ≤ 2 * y * 1000000000000000 + 1000000000000000 := by exact_mod_cast hhi
  rw [eq_comm, round_eq_iff, Set.mem_Ico]
  push_cast
  constructor <;> linarith

/-- A list that follows the circle from the n-th point on holds the rounded sines of the angles from the n-th on. -/
theorem getD_eq_round_of_followsCircle (ys : List Nat) {p : CirclePoint} {n : Nat} (hys : followsCircle ys p = true)
    (hn : n + ys.length ≤ 4096) (h : ‖p.toComplex - lutTurn ^ n‖ ≤ n / 10 ^ 14) (j : Nat) (hj : j < ys.length) :
    (ys.getD j 0 : Int) = round (Real.sin (((n + j : Nat) : ℝ) / 4096 * (Real.pi / 2)) * 65536) := by
  induction ys generalizing p n j with
  | nil => exact absurd hj (Nat.not_lt_zero j)
  | cons y ys ih =>
    obtain ⟨hadmits, hcan, hrest⟩ := followsCircle_cons hys
    rw [List.length_cons] at hn hj
    cases j with
    | zero => exact round_sine_of_admits hadmits (by omega) h
    | succ j =>
      rw [List.getD_cons_succ, Nat.add_comm j 1, ← Nat.add_assoc]
      exact ih hrest (by omega) (norm_advance_sub_pow_le hcan (by omega) h) j (by omega)

/-- Settles O49: the table follows the circle from angle 0, where the point is exact. -/
theorem tableEntriesAreRoundedSines : Obligations.TableEntriesAreRoundedSines := by
  intro i hi
  have hstart : ‖CirclePoint.toComplex ⟨1000000000000000, 0⟩ - lutTurn ^ 0‖ ≤ (0 : Nat) / 10 ^ 14 := by
    have : CirclePoint.toComplex ⟨1000000000000000, 0⟩ = 1 := by
      apply Complex.ext <;> norm_num [CirclePoint.toComplex]
    simp [this]
  have hlength := length_lutRows_flatten
  rw [lut_eq_getD_flatten]
  simpa only [Nat.zero_add] using
    getD_eq_round_of_followsCircle _ lutRows_followCircle (by omega) hstart i (by omega)

/-- The table is non-decreasing, because the sine is on the first quadrant and rounding keeps the order. -/
theorem lut_mono {i j : Nat} (hij : i ≤ j) (hj : j ≤ 4095) : lut i ≤ lut j := by
  have hcast : (i : ℝ) ≤ j := by exact_mod_cast hij
  have hj' : (j : ℝ) ≤ 4095 := by exact_mod_cast hj
  have hpi := Real.pi_pos
  have hi0 : (0 : ℝ) ≤ i / 4096 * (Real.pi / 2) := by positivity
  have hj1 : (j : ℝ) / 4096 * (Real.pi / 2) ≤ Real.pi / 2 := mul_le_of_le_one_left (by positivity) (by linarith)
  have hsin : Real.sin (i / 4096 * (Real.pi / 2)) ≤ Real.sin (j / 4096 * (Real.pi / 2)) :=
    Real.sin_le_sin_of_le_of_le_pi_div_two (by linarith) hj1 (by gcongr)
  rw [← Int.ofNat_le, tableEntriesAreRoundedSines i (hij.trans hj), tableEntriesAreRoundedSines j hj]
  rw [round_eq, round_eq]
  exact Int.floor_mono (by gcongr)

/-- Settles O50: between its first entry, the first of its last ten and its last entry the table is non-decreasing. -/
theorem tableIsNonDecreasing : Obligations.TableIsNonDecreasing := by
  have hlast : lut 4095 = 65536 := by decide
  have hplateau : lut 4086 = 65536 := by decide
  refine ⟨by decide, fun i hlo hhi => le_antisymm ?_ ?_, fun i j hij hj => ⟨lut_mono hij hj, ?_⟩⟩
  · exact (lut_mono hhi le_rfl).trans_eq hlast
  · exact hplateau.symm.trans_le (lut_mono hlo hhi)
  · exact (lut_mono hj le_rfl).trans_eq hlast

end Sys2Proof.Machine
end

section
/-! SUPPORT. The layout of a command word and the opcode map, each read both ways (30_encoding.md R37 to R44): a word without
reserved bits is the word of its own fields, and what an opcode decodes to is encoded with that opcode. -/

namespace Sys2Proof

/-! ### The fields of a word -/

theorem toNat_field (w : Word) (start len : Nat) : (w.extractLsb' start len).toNat = w.toNat / 2 ^ start % 2 ^ len := by
  rw [BitVec.extractLsb'_toNat, Nat.shiftRight_eq_div_pow]

theorem field_eq_zero_iff (w : Word) (start len : Nat) :
    w.extractLsb' start len = 0 ↔ w.toNat / 2 ^ start % 2 ^ len = 0 := by
  rw [BitVec.toNat_eq, toNat_field, BitVec.ofNat_eq_ofNat, BitVec.toNat_ofNat, Nat.zero_mod]

/-- The reserved bits of a command word (30_encoding.md R39). -/
theorem reserved_eq_zero_iff (w : Word) :
    (w.extractLsb' 7 1 = 0 ∧ w.extractLsb' 22 10 = 0) ↔ w.toNat / 2 ^ 7 % 2 = 0 ∧ w.toNat / 2 ^ 22 = 0 := by
  rw [field_eq_zero_iff, field_eq_zero_iff]
  omega

@[simp] theorem Kind.ofBits_bits (k : Kind) : Kind.ofBits k.bits = k := by
  cases k <;> rfl

@[simp] theorem Kind.bits_ofBits (k : BitVec 2) : (Kind.ofBits k).bits = k := by
  revert k
  decide

/-- "KIND bit 1 is 1 exactly for the fixed-point kinds" (30_encoding.md R38), read from the field. -/
theorem Kind.isFixed_ofBits (k : BitVec 2) : (Kind.ofBits k).isFixed = decide (k.toNat / 2 = 1) := by
  revert k
  decide

/-- In a command word no field carries into the next (30_encoding.md R37). -/
theorem toNat_cmdWord (op : BitVec 7) (t : Ty) :
    (cmdWord op t).toNat = op.toNat + t.kind.bits.toNat * 2 ^ 8 + t.n.toNat * 2 ^ 10 + t.f.toNat * 2 ^ 16 := by
  rw [cmdWord, BitVec.toNat_ofNat, Nat.mod_eq_of_lt]
  omega

theorem opcode_cmdWord (op : BitVec 7) (t : Ty) : (cmdWord op t).extractLsb' 0 7 = op := by
  rw [BitVec.toNat_eq, toNat_field, toNat_cmdWord]
  omega

theorem reserved_cmdWord (op : BitVec 7) (t : Ty) :
    (cmdWord op t).extractLsb' 7 1 = 0 ∧ (cmdWord op t).extractLsb' 22 10 = 0 := by
  rw [reserved_eq_zero_iff, toNat_cmdWord]
  omega

/-- The type fields of a command word read back as its type. -/
@[simp] theorem tyOfWord_cmdWord (op : BitVec 7) (t : Ty) : tyOfWord (cmdWord op t) = t := by
  have hkind : (cmdWord op t).extractLsb' 8 2 = t.kind.bits := by
    rw [BitVec.toNat_eq, toNat_field, toNat_cmdWord]
    omega
  have hn : (cmdWord op t).extractLsb' 10 6 = t.n := by
    rw [BitVec.toNat_eq, toNat_field, toNat_cmdWord]
    omega
  have hf : (cmdWord op t).extractLsb' 16 6 = t.f := by
    rw [BitVec.toNat_eq, toNat_field, toNat_cmdWord]
    omega
  rw [tyOfWord, hkind, hn, hf, Kind.ofBits_bits]

/-- A descriptor is laid out as a command word with opcode 0 (30_encoding.md R44). -/
@[simp] theorem tyOfWord_descriptor (t : Ty) : tyOfWord (descriptor t) = t := by
  have hword : descriptor t = cmdWord 0 t := by simp [descriptor, cmdWord]
  rw [hword, tyOfWord_cmdWord]

/-- A word without reserved bits is the command word of its own fields. -/
theorem cmdWord_fields {w : Word} (h : w.extractLsb' 7 1 = 0 ∧ w.extractLsb' 22 10 = 0) :
    cmdWord (w.extractLsb' 0 7) (tyOfWord w) = w := by
  rw [reserved_eq_zero_iff] at h
  rw [BitVec.toNat_eq, toNat_cmdWord]
  simp only [tyOfWord, Kind.bits_ofBits, toNat_field]
  omega

/-! ### The decoder on command words -/

theorem decode_cmdWord (op : BitVec 7) (t : Ty) (a b : Word) :
    decode ⟨cmdWord op t, a, b⟩ = decodeOp op.toNat t a b := by
  rw [decode, if_pos (reserved_cmdWord op t), opcode_cmdWord, tyOfWord_cmdWord]

/-- Everything the decoder can do: refuse a reserved bit, or read the command word's opcode and type by the opcode map. -/
theorem decode_cases (c : Command) :
    (¬(c.cmd.extractLsb' 7 1 = 0 ∧ c.cmd.extractLsb' 22 10 = 0) ∧ decode c = .error .reservedBits) ∨
      ((c.cmd.extractLsb' 7 1 = 0 ∧ c.cmd.extractLsb' 22 10 = 0) ∧
        decode c = decodeOp (c.cmd.extractLsb' 0 7).toNat (tyOfWord c.cmd) c.a c.b) := by
  by_cases h : c.cmd.extractLsb' 7 1 = 0 ∧ c.cmd.extractLsb' 22 10 = 0
  · exact .inr ⟨h, if_pos h⟩
  · exact .inl ⟨h, if_neg h⟩

/-! ### The opcode map -/

open Laws.OpcodeMap in
/-- Every instruction has its row of the opcode map. -/
theorem opcodeMap_row (i : Instr) : Laws.OpcodeMap.Statement i := by
  cases i <;> simp only [fromraw, fromint, fromf32, fromf64, add, sub, mul, div, mod, addsat, subsat, mulsat, mulpow2,
    divpow2, modpow2, band, bor, bxor, bnot, shl, shr, rol, ror, eq, ne, lt, le, gt, ge, Laws.OpcodeMap.min,
    Laws.OpcodeMap.max, avg, sign, abs, neg, copysign, rev, popcnt, parity, clz, ctz, bsr, bsf, zero, one, lsb, half, allones,
    msb, minval, maxval, bit, fraction, tobytes, frombytes, getbyte, setbyte, convert, convfrac, sin, cos, tan, asin, acos]

/-- The opcodes that are refused for a kind: those the map leaves unassigned (R41), and CONVFRAC's for SI and UI (R42). -/
def refusedOpcode (op : Nat) (k : Kind) : Prop :=
  op = 0x00 ∨ (0x05 ≤ op ∧ op ≤ 0x07) ∨ op = 0x13 ∨ (0x1C ≤ op ∧ op ≤ 0x1F) ∨ (0x26 ≤ op ∧ op ≤ 0x27) ∨ op = 0x2F ∨
    op = 0x37 ∨ (0x42 ≤ op ∧ op ≤ 0x43) ∨ (0x4A ≤ op ∧ op ≤ 0x4F) ∨ 0x55 ≤ op ∨ (op = 0x49 ∧ k.isFixed = false)

theorem definedForKind_convfrac (t : Ty) (a b : Word) : (Instr.convfrac t a b).definedForKind = t.kind.isFixed := by
  obtain ⟨k, n, f⟩ := t
  cases k <;> rfl

/-- Everything the opcode map can do: refuse the opcode, or give an instruction that is encoded with this opcode and type, and
with each operand or 0 in its place (R47). -/
theorem decodeOp_cases (op : Nat) (t : Ty) (a b : Word) :
    (refusedOpcode op t.kind ∧ ∃ e, decodeOp op t a b = .error e) ∨
      (¬refusedOpcode op t.kind ∧ ∃ i, decodeOp op t a b = .ok i ∧ i.definedForKind = true ∧
        (encode i).cmd = cmdWord (BitVec.ofNat 7 op) t ∧
        ((encode i).a = a ∨ (encode i).a = 0) ∧ ((encode i).b = b ∨ (encode i).b = 0)) := by
  unfold decodeOp
  split
  case h_59 => -- CONVFRAC
    cases hk : t.kind.isFixed with
    | true =>
      have hdefined := (definedForKind_convfrac t a b).trans hk
      exact .inr ⟨by simp [refusedOpcode, hk], _, rfl, hdefined, rfl, .inl rfl, .inl rfl⟩
    | false => exact .inl ⟨by simp [refusedOpcode, hk], _, rfl⟩
  case h_65 => -- the opcodes without a row
    simp only [imp_false] at *
    exact .inl ⟨by unfold refusedOpcode; omega, _, rfl⟩
  all_goals exact .inr ⟨by simp [refusedOpcode], _, rfl, rfl, rfl, by simp [encode], by simp [encode]⟩

theorem decodeOp_refuses_iff (op : Nat) (t : Ty) (a b : Word) :
    (∀ i, decodeOp op t a b ≠ .ok i) ↔ refusedOpcode op t.kind := by
  obtain ⟨hrefused, e, he⟩ | ⟨hrefused, i, hi, -⟩ := decodeOp_cases op t a b
  · simp [hrefused, he]
  · simp [hrefused, hi]

/-- The commands the decoder refuses, by their words (R39, R41, R42). -/
theorem decode_refuses_iff (c : Command) :
    (∀ i, decode c ≠ .ok i) ↔ c.cmd.toNat / 2 ^ 7 % 2 ≠ 0 ∨ c.cmd.toNat / 2 ^ 22 ≠ 0 ∨
      refusedOpcode (c.cmd.toNat % 2 ^ 7) (tyOfWord c.cmd).kind := by
  obtain ⟨hreserved, hd⟩ | ⟨hreserved, hd⟩ := decode_cases c <;> rw [reserved_eq_zero_iff] at hreserved
  · exact iff_of_true (by simp [hd]) (by omega)
  · obtain ⟨hbit7, hhigh⟩ := hreserved
    rw [hd, decodeOp_refuses_iff, toNat_field, pow_zero, Nat.div_one]
    simp only [hbit7, hhigh, ne_eq, not_true, false_or]

/-- Settles O1: the instruction's row of the opcode map, on the command word of its opcode and type. -/
theorem decodeOfEncodeGivesTheInstruction : Obligations.DecodeOfEncodeGivesTheInstruction := by
  intro i hi
  obtain ⟨op, hcmd, hop⟩ := opcodeMap_row i hi
  calc decode (encode i) = decode ⟨cmdWord op i.ty, (encode i).a, (encode i).b⟩ := by rw [← hcmd]
    _ = .ok i := (decode_cmdWord op i.ty _ _).trans hop

/-- Settles O2: a word without reserved bits is the command word of its own fields, with which the opcode map's instruction is
encoded. -/
theorem decodedCommandIsTheEncodersCommand : Obligations.DecodedCommandIsTheEncodersCommand := by
  intro c i h
  obtain ⟨-, hd⟩ | ⟨hreserved, hd⟩ := decode_cases c <;> rw [hd] at h
  · cases h
  obtain ⟨-, e, he⟩ | ⟨-, j, hj, hkind, hcmd, ha, hb⟩ :=
    decodeOp_cases (c.cmd.extractLsb' 0 7).toNat (tyOfWord c.cmd) c.a c.b
  · cases he.symm.trans h
  · cases hj.symm.trans h
    rw [BitVec.ofNat_toNat, BitVec.setWidth_eq, cmdWord_fields hreserved] at hcmd
    exact ⟨hcmd, ha, hb, decodeOfEncodeGivesTheInstruction i hkind⟩

/-- Settles O4: the words are those the encoder writes for the commands beside them. -/
theorem exampleWordsOfTheSpecDecode : Obligations.ExampleWordsOfTheSpecDecode :=
  ⟨decodeOfEncodeGivesTheInstruction (.add ⟨.si, 16, 0⟩ 0x7FFF 1) rfl,
    decodeOfEncodeGivesTheInstruction (.mul ⟨.fx, 16, 8⟩ 0x100 0x100) rfl,
    decodeOfEncodeGivesTheInstruction (.sin ⟨.ui, 12, 0⟩ 0x400) rfl,
    decodeOfEncodeGivesTheInstruction (.convert ⟨.fx, 16, 8⟩ 0x180 0x2000) rfl,
    tyOfWord_descriptor ⟨.si, 8, 0⟩⟩

end Sys2Proof
end

section
/-! SUPPORT. The two checks before an instruction's own (30_encoding.md R46): the command word is one the decoder takes (R39,
R41, R42), and the type is legal (R40), which every instruction checks on its own type whatever its operands. -/

namespace Sys2Proof.Machine

theorem isFixed_tyOfWord (w : Word) : (tyOfWord w).kind.isFixed = false ↔ w.toNat / 2 ^ 9 % 2 = 0 := by
  rw [tyOfWord, Kind.isFixed_ofBits, toNat_field, decide_eq_false_iff_not]
  omega

/-- Settles O3: the illegal words are those the decoder refuses. -/
theorem exactlyTheIllegalCommandWordsRaiseIllegalCommand :
    Obligations.ExactlyTheIllegalCommandWordsRaiseIllegalCommand := by
  intro c s op illegal
  have hrefuses : (∀ i, decode c ≠ .ok i) ↔ illegal := by
    rw [decode_refuses_iff, refusedOpcode, isFixed_tyOfWord]
  refine ⟨fun h => completeCommand_of_not_decoded (hrefuses.mpr h) s, fun h => ?_⟩
  obtain ⟨i, hi⟩ := not_forall_not.mp (mt hrefuses.mp h)
  exact ⟨i, hi, completeCommand_of_decoded hi s⟩

/-- The legal types, written out (30_encoding.md R40). -/
theorem wellFormed_iff (t : Ty) :
    t.wellFormed = true ↔ t.n.toNat ≤ 32 ∧ ((t.kind = .si ∨ t.kind = .ui) → t.f.toNat = 0) ∧
      ((t.kind = .fx ∨ t.kind = .ufx) → t.f.toNat ≤ t.n.toNat) := by
  obtain ⟨k, n, f⟩ := t
  cases k <;> simp [Ty.wellFormed, BitVec.toNat_eq]

/-- Where its kind has it, an instruction is an operation performed on its own type, for every state. -/
theorem exec_performs (i : Instr) (h : i.definedForKind = true) :
    ∃ result : Result, ∀ s, exec i s = perform i.ty result s := by
  cases i with
  | convfrac t a b =>
    rw [definedForKind_convfrac] at h
    exact ⟨convfracResult t a b, fun s => if_pos h⟩
  | _ => exact ⟨_, fun _ => rfl⟩

/-- Settles O16: the operation performed on an illegal type raises the error, whatever its result would be. -/
theorem illegalTypeRaisesUnsupportedWidth : Obligations.IllegalTypeRaisesUnsupportedWidth := by
  intro i s hkind htype
  rw [← wellFormed_iff, Bool.not_eq_true] at htype
  obtain ⟨result, hexec⟩ := exec_performs i hkind
  exact (hexec s).trans (perform_illegal htype result s)

end Sys2Proof.Machine
end

section
/-! SUPPORT. Construction and arithmetic on a legal type (40_construct_arith.md R49, R50, R54 to R61): each command responds with
the one value its rule computes, and DIV and MOD refuse a zero divisor. -/

namespace Sys2Proof.Machine

/-- On a legal type an operation without checks of its own responds with its value (60_exceptions.md R129). -/
theorem perform_ok {t : Ty} (ht : t.wellFormed = true) {v w : Int} (h : v = w) (s : State) :
    perform t (.ok v) s = .next (s.respond w) := by
  rw [perform_legal ht, State.deliver_ok, h]

theorem shiftLeft_eq (a : Int) (k : Nat) : shiftLeft a k = a * 2 ^ k := by
  rw [shiftLeft, Nat.cast_pow, Nat.cast_ofNat]

theorem shiftRight_eq (a : Int) (k : Nat) : shiftRight a k = a / 2 ^ k := by
  rw [shiftRight, Nat.cast_pow, Nat.cast_ofNat]

/-- `s32` is the two's-complement reading of the word. -/
theorem s32_eq_toInt (x : Word) : s32 x = x.toInt := by
  rw [s32, signExtensionIsTheTwosComplementReading, if_neg (by decide), BitVec.ofInt_natCast, BitVec.ofNat_toNat,
    BitVec.setWidth_eq]

/-- A canonical value is its own wrap (10_state.md R13). -/
theorem wrap_of_canonical {t : Ty} {v : Int} (h : canonical t v = true) : wrap t v = v :=
  (wrap_unique h (by simp)).symm

/-- Every operand is read as a canonical value (10_state.md R13). -/
theorem canonical_val (t : Ty) (x : Word) : canonical t (val t x) = true :=
  (wrap_spec t _).1

/-- A response of a canonical value, given back as an operand, is read as that value. -/
theorem val_word_of_canonical {t : Ty} (ht : t.wellFormed = true) {v : Int} (h : canonical t v = true) :
    val t (word v) = v :=
  (canonicalOperandIsReadBack t v (word v) (word v) ht).1 h

theorem lo_nonpos (t : Ty) : lo t ≤ 0 := by
  simp only [lo, signedMin]
  split
  · exact le_refl _
  · have hpos := two_pow_pos (width t - 1)
    split <;> omega

/-- Every type has a canonical value, so its bounds are in order. -/
theorem lo_le_hi (t : Ty) : lo t ≤ hi t := by
  have h := (wrap_spec t 0).1
  simp only [canonical, Bool.and_eq_true, decide_eq_true_eq] at h
  exact h.1.trans h.2

/-- Only SI and FX of width 0, whose one value is −1, lack the value 0 (10_state.md R7). -/
theorem canonical_zero {t : Ty} (hn : width t ≠ 0) : canonical t 0 = true := by
  rw [canonical_iff]
  refine ⟨lo_nonpos t, ?_⟩
  obtain ⟨n, hn⟩ := Nat.exists_eq_succ_of_ne_zero hn
  have hpow := two_pow_succ_cast n
  have hpos := two_pow_pos n
  rw [hn, Nat.succ_eq_add_one]
  simp only [lo, signedMin, hn, Nat.succ_ne_zero, Nat.succ_sub_one, if_false]
  split <;> omega

/-- The clamp to the bounds of a type is a value of the type, so no wrap follows it (40_construct_arith.md R59). -/
theorem wrap_clamp (t : Ty) (v : Int) : wrap t (clamp v (lo t) (hi t)) = max (lo t) (min (hi t) v) := by
  have hbounds := lo_le_hi t
  obtain ⟨hlo, hhi, hinside, hbelow, habove⟩ := clamp_spec (v := v) hbounds
  have hclamp : clamp v (lo t) (hi t) = max (lo t) (min (hi t) v) := by omega
  rw [← hclamp]
  exact wrap_of_canonical (by simp [canonical, hlo, hhi])

/-- Settles O20: the words decode to the commands, and `s32` and the scaling are the statement's. -/
theorem fromrawAndFromintResults : Obligations.FromrawAndFromintResults := by
  intro t a b s ht
  have hvalue : shiftLeft (s32 a) (frac t) = a.toInt * 2 ^ t.f.toNat := by rw [shiftLeft_eq, s32_eq_toInt]
  exact ⟨decode_cmdWord 0x01 t a b, perform_ok ht rfl s,
    decode_cmdWord 0x02 t a b, perform_ok ht (congrArg (wrap t) hvalue) s⟩

/-- Settles O24: the words decode to the commands, and MUL's shift right by F is the floor by 2^F. -/
theorem addSubMulResults : Obligations.AddSubMulResults := by
  intro t a b s ht
  exact ⟨decode_cmdWord 0x08 t a b, perform_ok ht rfl s, decode_cmdWord 0x09 t a b, perform_ok ht rfl s,
    decode_cmdWord 0x0A t a b, perform_ok ht (congrArg (wrap t) (shiftRight_eq _ _)) s⟩

/-- Settles O28: what the commands wrap is clamped to the canonical values already. -/
theorem saturatingResultsAreClamped : Obligations.SaturatingResultsAreClamped := by
  intro t a b s ht
  have hmul := shiftRight_eq (val t a * val t b) (frac t)
  exact ⟨decode_cmdWord 0x0D t a b, perform_ok ht (wrap_clamp t _) s,
    decode_cmdWord 0x0E t a b, perform_ok ht (wrap_clamp t _) s,
    decode_cmdWord 0x0F t a b, perform_ok ht ((wrap_clamp t _).trans (by rw [hmul])) s⟩

/-! ### Division -/

/-- What a command with a divisor does on a legal type: its value, or DivideByZeroError (60_exceptions.md R133). -/
theorem perform_nonZero {t : Ty} (ht : t.wellFormed = true) {d v w : Int} (hv : v = w) (s : State) :
    (d ≠ 0 → perform t (nonZero d v) s = .next (s.respond w)) ∧
      (d = 0 → perform t (nonZero d v) s = .next (s.raise .divideByZero)) := by
  refine ⟨fun hd => ?_, fun hd => ?_⟩
  · rw [nonZero_of_ne hd, perform_ok ht hv]
  · rw [hd, nonZero_zero, perform_legal ht, State.deliver_error]

/-- Settles O25: `a − trunc(a / b) · b` is the remainder with the dividend's sign. -/
theorem divModResults : Obligations.DivModResults := by
  intro t a b s ht
  have hquotient : truncDiv (shiftLeft (val t a) (frac t)) (val t b) = (val t a * 2 ^ t.f.toNat).tdiv (val t b) := by
    rw [truncDiv, shiftLeft_eq]
  have hrest : val t a - truncDiv (val t a) (val t b) * val t b = (val t a).tmod (val t b) := by
    rw [truncDiv, Int.tmod_def, mul_comm]
  obtain ⟨hdiv, hdiv0⟩ := perform_nonZero ht (d := val t b) (congrArg (wrap t) hquotient) s
  obtain ⟨hmod, hmod0⟩ := perform_nonZero ht (d := val t b) (congrArg (wrap t) hrest) s
  exact ⟨decode_cmdWord 0x0B t a b, decode_cmdWord 0x0C t a b, fun hb => ⟨hdiv hb, hmod hb⟩,
    fun hb => ⟨hdiv0 hb, hmod0 hb⟩⟩

/-- DIV and MOD on SI and UI, whose fraction width is 0. -/
theorem exec_div_mod_of_integer {t : Ty} (ht : t.wellFormed = true) (hk : t.kind = .si ∨ t.kind = .ui) {a b : Word}
    (hb : val t b ≠ 0) (s : State) :
    exec (.div t a b) s = .next (s.respond (wrap t ((val t a).tdiv (val t b)))) ∧
      exec (.mod t a b) s = .next (s.respond (wrap t ((val t a).tmod (val t b)))) := by
  have hf : t.f.toNat = 0 := ((wellFormed_iff t).mp ht).2.1 hk
  simpa only [hf, pow_zero, mul_one] using (divModResults t a b s ht).2.2.1 hb

/-- Settles O26: the quotient 2^(N−1) is 2^N above the value −2^(N−1), so it wraps to it, and 0 is a value of the type. -/
theorem signedMinDividedByMinusOneWraps : Obligations.SignedMinDividedByMinusOneWraps := by
  intro n a b s hn1 hn32 ha hb
  have ht : Ty.wellFormed ⟨.si, n, 0⟩ = true := by simp [Ty.wellFormed, hn32]
  obtain ⟨hdiv, hmod⟩ := exec_div_mod_of_integer ht (.inl rfl) (a := a) (by rw [hb]; decide) s
  have hquotient : wrap ⟨.si, n, 0⟩ ((-2 ^ (n.toNat - 1) : Int).tdiv (-1)) = -2 ^ (n.toNat - 1) := by
    refine (wrap_unique (ha ▸ canonical_val _ a) ?_).symm
    obtain ⟨m, hm⟩ := Nat.exists_eq_add_of_le' hn1
    rw [Int.tdiv_neg, Int.tdiv_one, width_eq, hm, Nat.add_sub_cancel, two_pow_succ_cast]
    exact ⟨-1, by push_cast; ring⟩
  have hrest : wrap ⟨.si, n, 0⟩ ((-2 ^ (n.toNat - 1) : Int).tmod (-1)) = 0 := by
    rw [Int.tmod_neg, Int.tmod_one]
    exact wrap_of_canonical (canonical_zero (Nat.ne_of_gt hn1))
  rw [ha, hb] at hdiv hmod
  exact ⟨hquotient ▸ hdiv, hrest ▸ hmod⟩

/-- The remainder lies between 0 and the dividend, both values of the type. Width 0 has no case: there dividend and divisor are
the one value, and the quotient 1 is not it. -/
theorem canonical_tmod {t : Ty} {a b : Int} (ha : canonical t a = true) (hb : canonical t b = true) (hb0 : b ≠ 0)
    (hq : canonical t (a.tdiv b) = true) : canonical t (a.tmod b) = true := by
  have hwidth : width t ≠ 0 := by
    intro hn
    have hlo := lo_nonpos t
    simp only [canonical_iff, hn, pow_zero, Nat.cast_one] at ha hb hq
    obtain rfl : a = b := by omega
    rw [Int.tdiv_self hb0] at hq
    omega
  have h0 := canonical_zero hwidth
  rw [canonical_iff] at h0 ha ⊢
  have hsize : (a.tmod b).natAbs ≤ a.natAbs := by
    rw [Int.natAbs_tmod]
    exact Nat.mod_le _ _
  obtain hsign | hsign := le_total 0 a
  · have hrest := Int.tmod_nonneg b hsign
    omega
  · have hrest := Int.tmod_nonneg b (Int.neg_nonneg.mpr hsign)
    rw [Int.neg_tmod] at hrest
    omega

/-- Settles O27: quotient and remainder are both values of the type, so the responses are read back as they are. -/
theorem divAndModRecomposeTheDividend : Obligations.DivAndModRecomposeTheDividend := by
  intro t a b s ht hk hb hq
  obtain ⟨hdiv, hmod⟩ := exec_div_mod_of_integer ht hk (a := a) hb s
  have hr := canonical_tmod (canonical_val t a) (canonical_val t b) hb hq
  refine ⟨_, _, hdiv, hmod, rfl, rfl, ?_⟩
  rw [State.respond_r, State.respond_r, wrap_of_canonical hq, wrap_of_canonical hr, val_word_of_canonical ht hq,
    val_word_of_canonical ht hr]
  exact (Int.tdiv_mul_add_tmod _ _).symm

end Sys2Proof.Machine
end

section
/-! SUPPORT. Construction from floating-point data (40_construct_arith.md R51 to R53): the fields of a datum, the rounding to the
nearest integer, and the signed 64-bit range. -/

namespace Sys2Proof.Machine

/-! ### The fields of a datum -/

theorem toNat_append_eq_add {m n : Nat} (x : BitVec m) (y : BitVec n) :
    (x ++ y).toNat = x.toNat * 2 ^ n + y.toNat := by
  rw [BitVec.toNat_append, ← Nat.shiftLeft_add_eq_or_of_lt y.isLt, Nat.shiftLeft_eq]

theorem toNat_append_mod {m n : Nat} (x : BitVec m) (y : BitVec n) : (x ++ y).toNat % 2 ^ n = y.toNat := by
  rw [toNat_append_eq_add, Nat.mul_add_mod_self_right, Nat.mod_eq_of_lt y.isLt]

theorem toNat_append_div {m n : Nat} (x : BitVec m) (y : BitVec n) : (x ++ y).toNat / 2 ^ n = x.toNat := by
  rw [toNat_append_eq_add, mul_comm, Nat.mul_add_div (Nat.two_pow_pos n), Nat.div_eq_of_lt y.isLt, add_zero]

/-- A datum put together from its sign, its biased exponent and its fraction, at any two widths. The offset takes the bias and
the fraction's places off the exponent at once. -/
theorem floatDatum_append {e m : Nat} (sign : BitVec 1) (biased : BitVec e) (fraction : BitVec m) {offset : Int}
    (hoffset : ((2 ^ (e - 1) - 1 : Nat) : Int) + m = offset) :
    floatDatum e m (sign ++ biased ++ fraction).toNat =
      if biased.toNat = 2 ^ e - 1 then (if fraction = 0 then .infinite (sign == 1) else .nan)
      else if biased.toNat = 0 then .finite (sign == 1) fraction.toNat (1 - offset)
      else .finite (sign == 1) (2 ^ m + fraction.toNat) ((biased.toNat : Int) - offset) := by
  have hsign : (sign ++ biased ++ fraction).toNat / 2 ^ (m + e) % 2 = sign.toNat := by
    rw [pow_add, ← Nat.div_div_eq_div_mul, toNat_append_div, toNat_append_div, Nat.mod_eq_of_lt sign.isLt]
  have hnegative : (sign.toNat == 1) = (sign == 1) := by
    rw [Bool.eq_iff_iff, beq_iff_eq, beq_iff_eq, BitVec.toNat_eq]
    rfl
  have hzero : fraction.toNat = 0 ↔ fraction = 0 := (BitVec.toNat_eq (y := 0)).symm
  simp only [floatDatum, hsign, hnegative, toNat_append_div, toNat_append_mod, hzero, sub_sub, hoffset]

/-- Settles O22: binary32 and binary64 are two instances of the one layout, with offsets 127 + 23 and 1023 + 52. -/
theorem floatLayoutsAreIEEE : Obligations.FloatLayoutsAreIEEE := by
  refine ⟨fun sign e m => floatDatum_append sign e m (offset := 150) rfl, fun sign e m a b hwords => ?_⟩
  rw [binary64, ← toNat_append_eq_add, hwords]
  exact floatDatum_append sign e m (offset := 1075) rfl

/-! ### The rounding -/

/-- An integer n is a rounding of the fraction num / den by a rule: no integer is nearer, and at a tie it is the one that the
rule names (40_construct_arith.md R51). -/
def RoundsTo (rule : TieRule) (num den n : Int) : Prop :=
  2 * |n * den - num| ≤ den ∧
    (2 * |n * den - num| = den → (rule = .even → n % 2 = 0) ∧ (rule = .away → |num| < |n * den|))

/-- An integer is its own rounding. -/
theorem roundsTo_self (rule : TieRule) (n : Int) : RoundsTo rule n 1 n := by
  simp [RoundsTo]

/-- Everything `round_ties` can do: give the integer below the fraction, or the one above that, each with what a tie then says
about the rule (00_scope.md section 5). -/
theorem roundTies_cases (rule : TieRule) (num den : Int) :
    (roundTies rule num den = num / den ∧ 2 * (num % den) ≤ den ∧
        (2 * (num % den) = den → (rule = .even → num / den % 2 = 0) ∧ (rule = .away → num < 0))) ∨
      (roundTies rule num den = num / den + 1 ∧ den ≤ 2 * (num % den) ∧
        (2 * (num % den) = den → (rule = .even → num / den % 2 = 1) ∧ (rule = .away → 0 ≤ num))) := by
  by_cases hbelow : 2 * (num % den) < den
  · exact .inl ⟨if_pos hbelow, hbelow.le, fun htie => absurd htie hbelow.ne⟩
  by_cases habove : den < 2 * (num % den)
  · exact .inr ⟨(if_neg hbelow).trans (if_pos habove), habove.le, fun htie => absurd htie habove.ne'⟩
  simp only [roundTies, hbelow, habove, if_false]
  cases rule with
  | even =>
    by_cases heven : num / den % 2 = 0
    · exact .inl ⟨if_pos heven, by omega, fun _ => ⟨fun _ => heven, nofun⟩⟩
    · exact .inr ⟨if_neg heven, by omega, fun _ => ⟨fun _ => by omega, nofun⟩⟩
  | away =>
    by_cases hneg : num < 0
    · exact .inl ⟨if_pos hneg, by omega, fun _ => ⟨nofun, fun _ => hneg⟩⟩
    · exact .inr ⟨if_neg hneg, by omega, fun _ => ⟨nofun, fun _ => by omega⟩⟩

/-- `round_ties` rounds to the nearest integer and breaks a tie by its rule. -/
theorem roundsTo_roundTies (rule : TieRule) {num den : Int} (hden : 0 < den) :
    RoundsTo rule num den (roundTies rule num den) := by
  have hdivision : num / den * den + num % den = num := Int.ediv_mul_add_emod num den
  have hrest := Int.emod_nonneg num hden.ne'
  have hrest_lt := Int.emod_lt_of_pos num hden
  obtain ⟨hn, hnear, htie⟩ | ⟨hn, hnear, htie⟩ := roundTies_cases rule num den
  · have hdist : |num / den * den - num| = num % den := by
      rw [abs_of_nonpos (by omega)]
      omega
    rw [RoundsTo, hn, hdist]
    refine ⟨hnear, fun h => ?_⟩
    obtain ⟨heven, haway⟩ := htie h
    refine ⟨heven, fun hrule => ?_⟩
    have hneg := haway hrule
    rw [abs_of_neg hneg, abs_of_neg (by omega)]
    omega
  · have hsucc : (num / den + 1) * den = num / den * den + den := by ring
    have hdist : |(num / den + 1) * den - num| = den - num % den := by
      rw [abs_of_nonneg (by omega)]
      omega
    rw [RoundsTo, hn, hdist]
    refine ⟨by omega, fun h => ?_⟩
    obtain ⟨heven, haway⟩ := htie (by omega)
    refine ⟨fun hrule => ?_, fun hrule => ?_⟩
    · have hodd := heven hrule
      omega
    · have hnonneg := haway hrule
      rw [abs_of_nonneg hnonneg, abs_of_nonneg (by omega)]
      omega

/-- A rounding of a fraction, read over the rationals. -/
theorem RoundsTo.rat {rule : TieRule} {num den n : Int} (h : RoundsTo rule num den n) (hden : 0 < den) :
    |(n : ℚ) - num / den| ≤ 1 / 2 ∧
      (|(n : ℚ) - num / den| = 1 / 2 →
        (rule = .even → n % 2 = 0) ∧ (rule = .away → |(num / den : ℚ)| < |(n : ℚ)|)) := by
  have hpos : (0 : ℚ) < den := by exact_mod_cast hden
  obtain ⟨hnear, htie⟩ := h
  have hdist : |(n : ℚ) - num / den| = ((|n * den - num| : Int) : ℚ) / den := by
    rw [sub_div' hpos.ne', abs_div, abs_of_pos hpos]
    push_cast
    rfl
  rw [hdist, div_le_div_iff₀ hpos two_pos, div_eq_div_iff hpos.ne' two_ne_zero, one_mul, mul_comm]
  refine ⟨by exact_mod_cast hnear, fun heq => ?_⟩
  obtain ⟨heven, haway⟩ := htie (by exact_mod_cast heq)
  refine ⟨heven, fun hrule => ?_⟩
  rw [abs_div, abs_of_pos hpos, div_lt_iff₀ hpos, ← abs_of_pos hpos, ← abs_mul]
  exact_mod_cast haway hrule

/-- What `scaleAndRound` rounds is the datum's exact rational: an integer where the exponent is 0 or above, and a fraction by a
power of two below. -/
theorem scaleAndRound_roundsTo (rule : TieRule) (negative : Bool) (m : Nat) (e : Int) :
    ∃ num den : Int, 0 < den ∧ (num / den : ℚ) = (if negative then -1 else 1) * m * 2 ^ e ∧
      RoundsTo rule num den (scaleAndRound rule negative m e) := by
  have hsigned : (((if negative then -(m : Int) else m) : Int) : ℚ) = (if negative then -1 else 1) * m := by
    cases negative <;> simp
  simp only [scaleAndRound, ← hsigned]
  generalize (if negative then -(m : Int) else m) = signed
  by_cases he : 0 ≤ e
  · obtain ⟨k, rfl⟩ := Int.eq_ofNat_of_zero_le he
    rw [if_pos he]
    refine ⟨_, 1, one_pos, ?_, roundsTo_self rule _⟩
    simp [shiftLeft_eq]
  · obtain ⟨k, rfl⟩ := Int.exists_eq_neg_ofNat (by omega : e ≤ 0)
    rw [if_neg he]
    refine ⟨signed, _, two_pow_pos _, ?_, roundsTo_roundTies rule (two_pow_pos _)⟩
    simp [div_eq_mul_inv]

/-- Settles O23: the integer law of the fraction that is rounded, read over the rationals. -/
theorem floatRoundingIsToNearest : Obligations.FloatRoundingIsToNearest := by
  intro rule negative m e x n
  obtain ⟨num, den, hden, hx, hrounds⟩ := scaleAndRound_roundsTo rule negative m e
  have hlaw := hrounds.rat hden
  rwa [hx] at hlaw

/-! ### The range -/

/-- A finite datum gives its rounded value, wrapped, where that lies in the signed 64-bit range, and 0 elsewhere
(40_construct_arith.md R51). -/
theorem floatToValue_finite (rule : TieRule) (t : Ty) (negative : Bool) (m : Nat) (e : Int) :
    floatToValue rule t (.finite negative m e) =
      if -2 ^ 63 ≤ scaleAndRound rule negative m (e + t.f.toNat) ∧
          scaleAndRound rule negative m (e + t.f.toNat) ≤ 2 ^ 63 - 1 then
        wrap t (scaleAndRound rule negative m (e + t.f.toNat))
      else wrap t 0 := by
  have hcast : ((2 ^ 63 : Nat) : Int) = 2 ^ 63 := by norm_num
  simp only [floatToValue, frac_eq, hcast]
  by_cases hrange : -2 ^ 63 ≤ scaleAndRound rule negative m (e + t.f.toNat) ∧
      scaleAndRound rule negative m (e + t.f.toNat) ≤ 2 ^ 63 - 1
  · rw [if_pos hrange, if_neg (by omega)]
  · rw [if_neg hrange, if_pos (by omega)]

/-- Settles O21, along the three forms of a datum. -/
theorem floatConstructionResults : Obligations.FloatConstructionResults := by
  intro t a b s ht value
  have hvalue (x : FloatDatum) : floatToValue Config.floatRoundTies t x = value x := by
    cases x with
    | nan => rfl
    | infinite negative => rfl
    | finite negative m e => exact floatToValue_finite _ t negative m e
  exact ⟨decode_cmdWord 0x03 t a b, perform_ok ht (hvalue _) s, decode_cmdWord 0x04 t a b, perform_ok ht (hvalue _) s⟩

end Sys2Proof.Machine
end

section
/-! SUPPORT. Patterns bit by bit (10_state.md R12, R14): below the width, a value operand's pattern has the bits of its word, the
response of a wrapped pattern has the bits of the pattern, and a value is fixed by these bits. -/

namespace Sys2Proof.Machine

/-- A pattern is the value's residue modulo 2^N (10_state.md R12). -/
theorem pat_cast (n : Nat) (v : Int) : (pat n v : Int) = v % ((2 ^ n : Nat) : Int) :=
  Int.toNat_of_nonneg (zext_spec n v).1

theorem pat_natCast (n p : Nat) : pat n (p : Int) = p % 2 ^ n := by
  rw [← Int.natCast_inj, pat_cast, Int.natCast_mod]

/-- `wrap` keeps the pattern. -/
theorem pat_wrap (t : Ty) (v : Int) : pat (width t) (wrap t v) = pat (width t) v := by
  rw [← Int.natCast_inj, pat_cast, pat_cast]
  exact (Int.modEq_iff_dvd.mpr (wrap_spec t v).2).symm

theorem patVal_eq_mod (t : Ty) (x : Word) : patVal t x = x.toNat % 2 ^ width t := by
  rw [patVal, val, pat_wrap, pat_natCast]

theorem patVal_lt (t : Ty) (x : Word) : patVal t x < 2 ^ width t := by
  rw [patVal_eq_mod]
  exact Nat.mod_lt _ (Nat.two_pow_pos _)

/-- Below the width, the pattern of a value operand has the bits of its word. -/
theorem patVal_testBit (t : Ty) (x : Word) {i : Nat} (hi : i < width t) : (patVal t x).testBit i = x.getLsbD i := by
  rw [patVal_eq_mod, Nat.testBit_mod_two_pow, decide_eq_true hi, Bool.true_and, BitVec.testBit_toNat]

/-- The response of a wrapped pattern, given back as an operand, has that pattern. -/
theorem patVal_word_wrap {t : Ty} (ht : t.wellFormed = true) (v : Int) :
    patVal t (word (wrap t v)) = pat (width t) v := by
  rw [patVal, val_word_of_canonical ht (wrap_spec t v).1, pat_wrap]

/-- Below the width, the response word of a wrapped pattern has the pattern's bits. -/
theorem getLsbD_word_wrap {t : Ty} (ht : t.wellFormed = true) (p : Nat) {i : Nat} (hi : i < width t) :
    (word (wrap t p)).getLsbD i = p.testBit i := by
  rw [← patVal_testBit t _ hi, patVal_word_wrap ht, pat_natCast, Nat.testBit_mod_two_pow, decide_eq_true hi, Bool.true_and]

/-- An operand's value is fixed by its N low bits. -/
theorem val_congr_of_bits {t : Ty} (ht : t.wellFormed = true) {x y : Word}
    (h : ∀ i < width t, x.getLsbD i = y.getLsbD i) : val t x = val t y := by
  refine (canonicalOperandIsReadBack t 0 x y ht).2 (Nat.eq_of_testBit_eq fun i => ?_)
  rw [Nat.testBit_mod_two_pow, Nat.testBit_mod_two_pow, BitVec.testBit_toNat, BitVec.testBit_toNat]
  by_cases hi : i < width t
  · rw [h i hi]
  · rw [decide_eq_false hi, Bool.false_and, Bool.false_and]

/-- A canonical value whose response word has an operand's N bits is that operand's value. -/
theorem eq_val_of_bits {t : Ty} (ht : t.wellFormed = true) {v : Int} (hv : canonical t v = true) {x : Word}
    (h : ∀ i < width t, (word v).getLsbD i = x.getLsbD i) : v = val t x :=
  (val_word_of_canonical ht hv).symm.trans (val_congr_of_bits ht h)

/-- An operation that wraps a pattern responds with the canonical value of the pattern's bits. -/
theorem perform_wrap_pattern {t : Ty} (ht : t.wellFormed = true) {x : Int} {p : Nat} (hx : x = p)
    {bit : Nat → Bool} (hp : ∀ i < width t, p.testBit i = bit i) (s : State) :
    ∃ v, perform t (.ok (wrap t x)) s = .next (s.respond v) ∧ canonical t v = true ∧
      ∀ i < width t, (word v).getLsbD i = bit i :=
  ⟨wrap t p, perform_ok ht (congrArg (wrap t) hx) s, (wrap_spec t p).1,
    fun i hi => (getLsbD_word_wrap ht p hi).trans (hp i hi)⟩

end Sys2Proof.Machine
end

section
/-! SUPPORT. The barrel shifter on a legal type (41_shift_rotate.md R63 to R73): the windows of the amount, the operations by a
power of two, logic bit by bit, and the rotates. -/

namespace Sys2Proof.Machine

/-! ### Operations with an amount -/

theorem pow2Window_iff (t : Ty) (k : Int) : pow2Window t k = true ↔ 0 ≤ k ∧ k ≤ width t := by
  simp [pow2Window]

theorem shiftWindow_iff (t : Ty) (k : Int) : shiftWindow t k = true ↔ 0 ≤ k ∧ k < width t := by
  simp [shiftWindow]

/-- What a command with an amount does on a legal type: its value for an amount in the window, and RangeError outside
(60_exceptions.md R132). -/
theorem perform_inWindow {t : Ty} (ht : t.wellFormed = true) {window : Int → Bool} {value result : Nat → Int}
    (hvalue : ∀ k : Nat, window k = true → value k = result k) (b : Word) (s : State) :
    (∀ k : Nat, b.toInt = k → window k = true →
        perform t (inWindow (window (s32 b)) (value (s32 b).toNat)) s = .next (s.respond (result k))) ∧
      (¬window b.toInt = true →
        perform t (inWindow (window (s32 b)) (value (s32 b).toNat)) s = .next (s.raise .range)) := by
  rw [s32_eq_toInt]
  refine ⟨fun k hk hin => ?_, fun hout => ?_⟩
  · rw [hk, hin, Int.toNat_natCast, inWindow_true, perform_ok ht (hvalue k hin)]
  · rw [Bool.eq_false_of_not_eq_true hout, inWindow_false, perform_legal ht, State.deliver_error]

/-- The low k ≤ N bits of a value's pattern are the value's residue modulo 2^k. -/
theorem patVal_and_mask (t : Ty) (a : Word) {k : Nat} (hk : k ≤ width t) :
    ((patVal t a &&& (2 ^ k - 1) : Nat) : Int) = val t a % 2 ^ k := by
  rw [Nat.and_two_pow_sub_one_eq_mod, Int.natCast_mod, patVal, pat_cast,
    Int.emod_emod_of_dvd _ (Int.natCast_dvd_natCast.mpr (Nat.pow_dvd_pow 2 hk)), Nat.cast_pow, Nat.cast_ofNat]

/-- Settles O29: the amounts 0 to N are the window, and `pat & (2^k − 1)` is the value modulo 2^k. -/
theorem powerOfTwoResults : Obligations.PowerOfTwoResults := by
  intro t a b s ht
  obtain ⟨hmul, hmulRange⟩ := perform_inWindow ht (window := pow2Window t)
    (value := fun k => wrap t (shiftLeft (val t a) k)) (fun k _ => congrArg (wrap t) (shiftLeft_eq _ k)) b s
  obtain ⟨hdiv, hdivRange⟩ := perform_inWindow ht (window := pow2Window t)
    (value := fun k => wrap t (shiftRight (val t a) k)) (fun k _ => congrArg (wrap t) (shiftRight_eq _ k)) b s
  obtain ⟨hmod, hmodRange⟩ := perform_inWindow ht (window := pow2Window t)
    (value := fun k => wrap t ((patVal t a &&& (2 ^ k - 1) : Nat) : Int)) (result := fun k => wrap t (val t a % 2 ^ k))
    (fun k hk => congrArg (wrap t) (patVal_and_mask t a (Int.ofNat_le.mp ((pow2Window_iff t k).mp hk).2))) b s
  refine ⟨decode_cmdWord 0x10 t a b, decode_cmdWord 0x11 t a b, decode_cmdWord 0x12 t a b, fun k hk hle => ?_,
    fun hout => ?_⟩
  · have hin : pow2Window t k = true := (pow2Window_iff t k).mpr ⟨Int.natCast_nonneg k, Int.ofNat_le.mpr hle⟩
    exact ⟨hmul k hk hin, hdiv k hk hin, hmod k hk hin⟩
  · have hnot : ¬pow2Window t b.toInt = true := by
      rw [pow2Window_iff, width_eq]
      omega
    exact ⟨hmulRange hnot, hdivRange hnot, hmodRange hnot⟩

/-- Settles O31: as for MULPOW2 and DIVPOW2, with N itself outside the window. -/
theorem shiftResults : Obligations.ShiftResults := by
  intro t a b s ht
  obtain ⟨hshl, hshlRange⟩ := perform_inWindow ht (window := shiftWindow t)
    (value := fun k => wrap t (shiftLeft (val t a) k)) (fun k _ => congrArg (wrap t) (shiftLeft_eq _ k)) b s
  obtain ⟨hshr, hshrRange⟩ := perform_inWindow ht (window := shiftWindow t)
    (value := fun k => wrap t (shiftRight (val t a) k)) (fun k _ => congrArg (wrap t) (shiftRight_eq _ k)) b s
  refine ⟨decode_cmdWord 0x18 t a b, decode_cmdWord 0x19 t a b, fun k hk hlt => ?_, fun hout => ?_⟩
  · have hin : shiftWindow t k = true := (shiftWindow_iff t k).mpr ⟨Int.natCast_nonneg k, Int.ofNat_lt.mpr hlt⟩
    exact ⟨hshl k hk hin, hshr k hk hin⟩
  · have hnot : ¬shiftWindow t b.toInt = true := by
      rw [shiftWindow_iff, width_eq]
      omega
    exact ⟨hshlRange hnot, hshrRange hnot⟩

/-! ### Logic -/

/-- NOT's pattern, which is never below 0. -/
theorem mask_sub_patVal (t : Ty) (a : Word) :
    (mask (width t) : Int) - patVal t a = ((2 ^ width t - (patVal t a + 1) : Nat) : Int) := by
  have hlt := patVal_lt t a
  rw [mask]
  omega

/-- Settles O30: each pattern bit by bit. -/
theorem logicResultsBitByBit : Obligations.LogicResultsBitByBit := by
  intro t a b s ht
  refine ⟨decode_cmdWord 0x14 t a b, decode_cmdWord 0x15 t a b, decode_cmdWord 0x16 t a b, decode_cmdWord 0x17 t a b,
    perform_wrap_pattern ht rfl (fun i hi => ?_) s, perform_wrap_pattern ht rfl (fun i hi => ?_) s,
    perform_wrap_pattern ht rfl (fun i hi => ?_) s, perform_wrap_pattern ht (mask_sub_patVal t a) (fun i hi => ?_) s⟩
  · rw [Nat.testBit_and, patVal_testBit t a hi, patVal_testBit t b hi]
  · rw [Nat.testBit_or, patVal_testBit t a hi, patVal_testBit t b hi]
  · rw [Nat.testBit_xor, patVal_testBit t a hi, patVal_testBit t b hi]
  · rw [Nat.testBit_two_pow_sub_succ (patVal_lt t a), decide_eq_true hi, Bool.true_and, patVal_testBit t a hi]

/-! ### Rotates -/

/-- At width 0 all values wrap to the one value, so the rotates' case for it gives what the formula would. -/
theorem ite_width_zero (t : Ty) (v w : Int) : (if width t = 0 then wrap t v else wrap t w) = wrap t w := by
  split
  · next hn => exact wrap_congr (by rw [hn]; exact one_dvd _)
  · rfl

/-- What a rotate does on a legal type, by the pattern `rotated k` that it gives for an amount k ≥ 0. -/
theorem perform_rotate {t : Ty} (ht : t.wellFormed = true) (v : Int) (rotated : Nat → Nat) (b : Word) (s : State) :
    (∀ k : Nat, b.toInt = k →
        perform t (inWindow (decide (0 ≤ s32 b)) (if width t = 0 then wrap t v else wrap t (rotated (s32 b).toNat))) s =
          perform t (.ok (wrap t (rotated k))) s) ∧
      (b.toInt < 0 →
        perform t (inWindow (decide (0 ≤ s32 b)) (if width t = 0 then wrap t v else wrap t (rotated (s32 b).toNat))) s =
          .next (s.raise .range)) := by
  obtain ⟨hin, hout⟩ := perform_inWindow ht (window := fun k => decide (0 ≤ k))
    (value := fun k => if width t = 0 then wrap t v else wrap t (rotated k))
    (fun k _ => ite_width_zero t v (rotated k)) b s
  refine ⟨fun k hk => ?_, fun hneg => hout (by simpa using hneg)⟩
  exact (hin k hk (by simp)).trans (perform_ok ht rfl s).symm

/-- Below a width N, every position is the position that the rotation by k moves some position to. -/
theorem exists_rotation_source {n j : Nat} (k : Nat) (hj : j < n) : ∃ i < n, (i + k) % n = j := by
  refine ⟨(j + (n - k % n)) % n, Nat.mod_lt _ (Nat.zero_lt_of_lt hj), ?_⟩
  have hk := Nat.mod_lt k (Nat.zero_lt_of_lt hj)
  calc ((j + (n - k % n)) % n + k) % n = (j + (n - k % n) + k % n) % n := by rw [Nat.mod_add_mod, Nat.add_mod_mod]
    _ = (j + n) % n := by rw [Nat.add_assoc, Nat.sub_add_cancel hk.le]
    _ = j := by rw [Nat.add_mod_right, Nat.mod_eq_of_lt hj]

/-- Settles O32: the amount counts by its residue modulo N, for which the rotations of a pattern are known bit by bit. -/
theorem rotateResultsBitByBit : Obligations.RotateResultsBitByBit := by
  intro t a b s ht
  obtain ⟨hrol, hrolRange⟩ :=
    perform_rotate ht (val t a) (fun k => rotateLeft (width t) (patVal t a) (k % width t)) b s
  obtain ⟨hror, hrorRange⟩ :=
    perform_rotate ht (val t a) (fun k => rotateRight (width t) (patVal t a) (k % width t)) b s
  refine ⟨decode_cmdWord 0x1A t a b, decode_cmdWord 0x1B t a b, fun k hk => ⟨?_, ?_⟩,
    fun hneg => ⟨hrolRange hneg, hrorRange hneg⟩⟩
  · obtain ⟨v, hexec, hv, hbits⟩ := perform_wrap_pattern ht rfl (fun _ _ => rfl) s
    refine ⟨v, (hrol k hk).trans hexec, hv, fun i hi => ?_⟩
    have hpos := Nat.zero_lt_of_lt hi
    rw [hbits _ (Nat.mod_lt _ hpos), ← Nat.add_mod_mod, rotateLeft_testBit (Nat.mod_lt k hpos) (patVal_lt t a) hi,
      patVal_testBit t a hi]
  · obtain ⟨v, hexec, hv, hbits⟩ := perform_wrap_pattern ht rfl (fun _ _ => rfl) s
    refine ⟨v, (hror k hk).trans hexec, hv, fun i hi => ?_⟩
    have hpos := Nat.zero_lt_of_lt hi
    rw [hbits i hi, rotateRight_testBit (Nat.mod_lt k hpos) (patVal_lt t a) hi, Nat.add_mod_mod,
      patVal_testBit t a (Nat.mod_lt _ hpos)]

/-- Settles O33: the two bit laws undo each other, and a value is fixed by its bits. -/
theorem rotatesAreInverse : Obligations.RotatesAreInverse := by
  intro t a k s ht hk
  have hamount : k.toInt = k.toInt.toNat := (Int.toNat_of_nonneg hk).symm
  have hrotate (x : Word) := (rotateResultsBitByBit t x k s ht).2.2.1 k.toInt.toNat hamount
  obtain ⟨⟨v, hrol, -, hvbits⟩, ⟨w, hror, -, hwbits⟩⟩ := hrotate a
  refine ⟨_, _, hrol, ?_, hror, ?_⟩
  · obtain ⟨-, ⟨u, hback, hu, hubits⟩⟩ := hrotate (word v)
    have huval : u = val t a := eq_val_of_bits ht hu fun i hi => by rw [hubits i hi, hvbits i hi]
    rw [State.respond_r]
    exact huval ▸ hback
  · obtain ⟨⟨u, hback, hu, hubits⟩, -⟩ := hrotate (word w)
    have huval : u = val t a := eq_val_of_bits ht hu fun j hj => by
      obtain ⟨i, hi, rfl⟩ := exists_rotation_source k.toInt.toNat hj
      rw [hubits i hi, hwbits i hi]
    rw [State.respond_r]
    exact huval ▸ hback

end Sys2Proof.Machine
end

section
/-! SUPPORT. Comparisons and utility operations on a legal type (42_compare_utility_bits.md R74 to R87): truth values, the
choices and magnitudes as the integers' own `min`, `max`, sign and absolute value, and the one value whose negation wraps to it. -/

namespace Sys2Proof.Machine

/-! ### Comparisons -/

theorem truth_decide (p : Prop) [Decidable p] : truth (decide p) = if p then 1 else 0 :=
  if_congr decide_eq_true_iff rfl rfl

/-- A relation that fails exactly when `q` holds, as LE does of GT. -/
theorem truth_decide_of_iff_not {p q : Prop} [Decidable p] [Decidable q] (h : p ↔ ¬q) :
    truth (decide p) = if q then 0 else 1 := by
  rw [truth_decide, if_congr h rfl rfl, ite_not]

/-- Settles O34: NE, LE and GE are the negations of EQ, GT and LT. -/
theorem comparisonResults : Obligations.ComparisonResults := by
  intro t a b s ht
  exact ⟨decode_cmdWord 0x20 t a b, perform_ok ht (truth_decide _) s,
    decode_cmdWord 0x21 t a b, perform_ok ht (truth_decide_of_iff_not Iff.rfl) s,
    decode_cmdWord 0x22 t a b, perform_ok ht (truth_decide _) s,
    decode_cmdWord 0x23 t a b, perform_ok ht (truth_decide_of_iff_not not_lt.symm) s,
    decode_cmdWord 0x24 t a b, perform_ok ht (truth_decide _) s,
    decode_cmdWord 0x25 t a b, perform_ok ht (truth_decide_of_iff_not not_lt.symm) s⟩

/-! ### Utility operations -/

/-- A choice between two operands is a value of the type, so its wrap does nothing (42_compare_utility_bits.md R81, R82). -/
theorem wrap_ite_val (t : Ty) (p : Prop) [Decidable p] (a b : Word) :
    wrap t (if p then val t a else val t b) = if p then val t a else val t b := by
  split
  · exact wrap_of_canonical (canonical_val t a)
  · exact wrap_of_canonical (canonical_val t b)

theorem magnitude_eq_abs (v : Int) : magnitude v = |v| := by
  rw [magnitude]
  split
  · next hneg => exact (abs_of_neg hneg).symm
  · next hnonneg => exact (abs_of_nonneg (not_lt.mp hnonneg)).symm

/-- The fixed-point kinds have the unit 2^F, the others the unit 1. -/
theorem unit_eq (t : Ty) : unit t = if t.kind = .fx ∨ t.kind = .ufx then 2 ^ t.f.toNat else 1 := by
  cases h : t.kind <;> simp [unit, Kind.isFixed, h]

/-- SIGN's three cases are a product with the sign (42_compare_utility_bits.md R84). -/
theorem ite_pos_neg_eq_sign_mul (v u : Int) : (if 0 < v then u else if v < 0 then -u else 0) = v.sign * u := by
  obtain hneg | rfl | hpos := lt_trichotomy v 0
  · rw [if_neg hneg.not_gt, if_pos hneg, Int.sign_eq_neg_one_of_neg hneg, neg_one_mul]
  · simp
  · rw [if_pos hpos, Int.sign_eq_one_of_pos hpos, one_mul]

/-- Settles O35: each command's value is the statement's, read with the integers' own operations. -/
theorem utilityResults : Obligations.UtilityResults := by
  intro t a b s ht
  have hmin := (wrap_ite_val t (val t a ≤ val t b) a b).trans (min_def _ _).symm
  have hmax := (wrap_ite_val t (val t b ≤ val t a) a b).trans ((max_def _ _).symm.trans (max_comm _ _))
  have hsign := (ite_pos_neg_eq_sign_mul (val t a) (unit t)).trans (by rw [unit_eq])
  have habs := magnitude_eq_abs (val t a)
  exact ⟨decode_cmdWord 0x28 t a b, perform_ok ht hmin s, decode_cmdWord 0x29 t a b, perform_ok ht hmax s,
    decode_cmdWord 0x2A t a b, perform_ok ht rfl s,
    decode_cmdWord 0x2B t a b, perform_ok ht (congrArg (wrap t) hsign) s,
    decode_cmdWord 0x2C t a b, perform_ok ht (congrArg (wrap t) habs) s,
    decode_cmdWord 0x2D t a b, perform_ok ht rfl s,
    decode_cmdWord 0x2E t a b, perform_ok ht (by rw [habs]) s⟩

/-- Where −2^(N−1) is a value, 2^(N−1) is 2^N above it and wraps to it. -/
theorem wrap_two_pow_pred {t : Ty} (hn : 1 ≤ width t) (hmin : canonical t (-2 ^ (width t - 1)) = true) :
    wrap t (2 ^ (width t - 1)) = -2 ^ (width t - 1) := by
  refine (wrap_unique hmin ?_).symm
  obtain ⟨m, hm⟩ := Nat.exists_eq_add_of_le' hn
  rw [hm, Nat.add_sub_cancel, two_pow_succ_cast]
  exact ⟨-1, by push_cast; ring⟩

/-- Settles O36: both signs of the magnitude wrap to −2^(N−1), the negative one because it is a value. -/
theorem signedMinIsItsOwnMagnitude : Obligations.SignedMinIsItsOwnMagnitude := by
  intro t a b s ht _ hn ha
  obtain ⟨-, -, -, -, -, -, -, -, -, habs, -, hneg, -, hcopy⟩ := utilityResults t a b s ht
  have hmin : canonical t (-2 ^ (t.n.toNat - 1)) = true := ha ▸ canonical_val t a
  have hpos : wrap t (2 ^ (t.n.toNat - 1)) = -2 ^ (t.n.toNat - 1) := wrap_two_pow_pred hn hmin
  have hmag : |(-2 ^ (t.n.toNat - 1) : Int)| = 2 ^ (t.n.toNat - 1) := by
    rw [abs_neg, abs_of_nonneg (by positivity)]
  rw [ha, hmag, hpos] at habs
  rw [ha, neg_neg, hpos] at hneg
  rw [ha, hmag, apply_ite (wrap t), wrap_of_canonical hmin, hpos, ite_self] at hcopy
  exact ⟨habs, hneg, hcopy⟩

end Sys2Proof.Machine
end

section
/-! SUPPORT. Bit manipulation on a legal type (42_compare_utility_bits.md R88 to R94): the reversal bit by bit, the count of the
1 bits, and the scans, whose answers are fixed by where the 1 bits stand. -/

namespace Sys2Proof.Machine

/-! ### Reversal -/

/-- REV's response bit by bit (42_compare_utility_bits.md R88). -/
theorem exec_rev_bits {t : Ty} (ht : t.wellFormed = true) (a : Word) (s : State) :
    ∃ v, exec (.rev t a) s = .next (s.respond v) ∧ canonical t v = true ∧
      ∀ i < width t, (word v).getLsbD (width t - 1 - i) = a.getLsbD i := by
  obtain ⟨v, hexec, hv, hbits⟩ := perform_wrap_pattern ht rfl (fun _ _ => rfl) s
  refine ⟨v, hexec, hv, fun i hi => ?_⟩
  rw [hbits _ (by omega), reverseBits_testBit _ hi, patVal_testBit t a hi]

/-- Settles O37: bit i goes to bit N−1−i and from there back, and a value is fixed by its bits. -/
theorem reverseMirrorsTheBits : Obligations.ReverseMirrorsTheBits := by
  intro t a b s ht
  obtain ⟨v, hexec, hv, hbits⟩ := exec_rev_bits ht a s
  obtain ⟨u, hback, hu, hubits⟩ := exec_rev_bits ht (word v) s
  have huval : u = val t a := eq_val_of_bits ht hu fun i hi => by
    have hmirror : width t - 1 - (width t - 1 - i) = i := by omega
    have hbit := hubits (width t - 1 - i) (by omega)
    rwa [hmirror, hbits i hi] at hbit
  exact ⟨decode_cmdWord 0x30 t a b, v, hexec, hv, hbits, huval ▸ hback⟩

/-! ### Counts -/

/-- The recursion of `popcount` counts the positions below N that hold a 1 (42_compare_utility_bits.md R89). -/
theorem popcount_eq_countP (n p : Nat) : popcount n p = (List.range n).countP p.testBit := by
  induction n generalizing p with
  | zero => rfl
  | succ n ih =>
    have htail : p.testBit ∘ Nat.succ = (p / 2).testBit := funext fun i => Nat.testBit_succ p i
    rw [popcount, ih, List.range_succ_eq_map, List.countP_cons, List.countP_map, htail, Nat.testBit_zero, Nat.add_comm]
    obtain h | h := Nat.mod_two_eq_zero_or_one p <;> simp [h]

/-- On a value operand, the count is of the word's bits below N. -/
theorem popcount_patVal (t : Ty) (a : Word) :
    popcount (width t) (patVal t a) = ((List.range (width t)).filter (fun i => a.getLsbD i)).length := by
  rw [popcount_eq_countP, List.countP_eq_length_filter]
  exact congrArg List.length (List.filter_congr fun i hi => patVal_testBit t a (List.mem_range.mp hi))

/-- Settles O38, from the count of the pattern's 1 bits. -/
theorem populationCountAndParityResults : Obligations.PopulationCountAndParityResults := by
  intro t a b s ht ones
  have hcount : popcount (width t) (patVal t a) = ones := popcount_patVal t a
  exact ⟨decode_cmdWord 0x31 t a b, perform_ok ht (congrArg _ hcount) s,
    decode_cmdWord 0x32 t a b, perform_ok ht (by rw [hcount]) s⟩

/-! ### Scans -/

/-- A pattern is 0 exactly when its operand has no 1 below N. -/
theorem patVal_eq_zero_iff (t : Ty) (a : Word) : patVal t a = 0 ↔ ∀ i < width t, a.getLsbD i = false := by
  refine ⟨fun h i hi => by rw [← patVal_testBit t a hi, h, Nat.zero_testBit], fun h => Nat.eq_of_testBit_eq fun i => ?_⟩
  rw [Nat.zero_testBit]
  obtain hi | hi := lt_or_ge i (width t)
  · rw [patVal_testBit t a hi, h i hi]
  · exact testBit_of_le (patVal_lt t a) hi

/-- Settles O39: the pattern is 0, and each scan has that case of its own. -/
theorem bitScansOfZero : Obligations.BitScansOfZero := by
  intro t a s ht hbits
  have hzero := (patVal_eq_zero_iff t a).mpr hbits
  exact ⟨perform_ok ht (if_pos hzero) s, perform_ok ht (if_pos hzero) s, perform_ok ht (if_pos hzero) s,
    perform_ok ht (if_pos hzero) s⟩

/-- The highest 1 bit is the only 1 with no 1 above it. -/
theorem highestBit_eq {p h : Nat} (hone : p.testBit h = true) (habove : ∀ i, h < i → p.testBit i = false) :
    highestBit p = h := by
  have hp : p ≠ 0 := by
    rintro rfl
    simp at hone
  obtain ⟨htop, hrest⟩ := highestBit_spec hp
  obtain hlt | heq | hgt := lt_trichotomy (highestBit p) h
  · exact absurd hone (by simp [hrest h hlt])
  · exact heq
  · exact absurd htop (by simp [habove _ hgt])

/-- The lowest 1 bit is the only 1 with no 1 below it. -/
theorem lowestBit_eq {n p l : Nat} (hl : l < n) (hone : p.testBit l = true) (hbelow : ∀ i < l, p.testBit i = false) :
    lowestBit n p = l := by
  obtain ⟨-, hlow, hrest⟩ := lowestBit_spec ⟨l, hl, hone⟩
  obtain hlt | heq | hgt := lt_trichotomy (lowestBit n p) l
  · exact absurd hlow (by simp [hbelow _ hlt])
  · exact heq
  · exact absurd hone (by simp [hrest l hgt])

/-- Settles O40: h and l are the pattern's highest and lowest 1 bit, and the pattern is not 0. -/
theorem bitScansOfNonzero : Obligations.BitScansOfNonzero := by
  intro t a b s h l ht hh hone habove hl hlone hbelow
  have hnonzero : patVal t a ≠ 0 := fun h0 => absurd hone (by simp [(patVal_eq_zero_iff t a).mp h0 h hh])
  have hhigh : highestBit (patVal t a) = h := by
    refine highestBit_eq ((patVal_testBit t a hh).trans hone) fun i hi => ?_
    obtain hin | hout := lt_or_ge i (width t)
    · exact (patVal_testBit t a hin).trans (habove i hi hin)
    · exact testBit_of_le (patVal_lt t a) hout
  have hlow : lowestBit (width t) (patVal t a) = l :=
    lowestBit_eq hl ((patVal_testBit t a hl).trans hlone) fun i hi =>
      (patVal_testBit t a (hi.trans hl)).trans (hbelow i hi)
  exact ⟨decode_cmdWord 0x33 t a b, perform_ok ht ((if_neg hnonzero).trans (by rw [hhigh])) s,
    decode_cmdWord 0x34 t a b, perform_ok ht ((if_neg hnonzero).trans (by rw [hlow])) s,
    decode_cmdWord 0x35 t a b, perform_ok ht ((if_neg hnonzero).trans (by rw [hhigh])) s,
    decode_cmdWord 0x36 t a b, perform_ok ht ((if_neg hnonzero).trans (by rw [hlow])) s⟩

end Sys2Proof.Machine
end

section
/-! SUPPORT. Constants on a legal type (43_constants_bytes_qformat.md R96 to R105): the numbers of the width table as powers of
two, and the bounds of a type as its extreme values. -/

namespace Sys2Proof.Machine

/-! ### The width table in powers of two -/

theorem mask_cast (n : Nat) : (mask n : Int) = 2 ^ n - 1 := by
  rw [mask, Nat.cast_sub Nat.one_le_two_pow, Nat.cast_pow, Nat.cast_ofNat, Nat.cast_one]

theorem signBit_cast (n : Nat) : (signBit n : Int) = if n = 0 then 0 else 2 ^ (n - 1) := by
  rw [signBit, Nat.cast_ite, Nat.cast_zero, Nat.cast_pow, Nat.cast_ofNat]

/-- HALF of UI is half of the greatest value (43_constants_bytes_qformat.md R99). -/
theorem halfOf_ui {t : Ty} (hk : t.kind = .ui) : halfOf t = (2 ^ width t - 1) / 2 := by
  rw [halfOf, hk, unsignedMax, mask_cast]

/-- The greatest signed value halved, with the floor −1 of −1/2 at width 0. -/
theorem signedMax_div_two (n : Nat) : signedMax n / 2 = if n = 0 then -1 else (2 ^ (n - 1) - 1) / 2 := by
  rw [signedMax]
  split
  · rfl
  · rw [Nat.cast_pow, Nat.cast_ofNat]

/-- HALF of SI is half of the greatest value. -/
theorem halfOf_si {t : Ty} (hk : t.kind = .si) :
    halfOf t = if width t = 0 then -1 else (2 ^ (width t - 1) - 1) / 2 := by
  rw [halfOf, hk]
  exact signedMax_div_two _

/-- HALF of the fixed-point kinds is half of their unit 2^F. -/
theorem halfOf_fixed {t : Ty} (hk : t.kind = .fx ∨ t.kind = .ufx) :
    halfOf t = if frac t = 0 then 0 else 2 ^ (frac t - 1) := by
  obtain hk | hk := hk <;> rw [halfOf, hk, Nat.cast_pow, Nat.cast_ofNat]

/-- Settles O41: each constant is a number of the width table, or the type's unit or half. -/
theorem constantResults : Obligations.ConstantResults := by
  intro t a b s ht
  refine ⟨decode_cmdWord 0x38 t a b, perform_ok ht rfl s,
    decode_cmdWord 0x39 t a b, perform_ok ht (congrArg (wrap t) (unit_eq t)) s,
    decode_cmdWord 0x3A t a b, perform_ok ht rfl s,
    decode_cmdWord 0x3B t a b, fun hk => perform_ok ht (congrArg (wrap t) (halfOf_ui hk)) s,
    fun hk => perform_ok ht (congrArg (wrap t) (halfOf_si hk)) s, fun hk => perform_ok ht ?_ s,
    decode_cmdWord 0x3C t a b, perform_ok ht (congrArg (wrap t) (mask_cast _)) s,
    decode_cmdWord 0x3D t a b, perform_ok ht (congrArg (wrap t) (signBit_cast _)) s⟩
  rw [halfOf_fixed hk, apply_ite (wrap t)]

/-! ### The extremes -/

/-- A value is canonical when it lies between the bounds of the type (10_state.md R15). -/
theorem canonical_iff_bounds (t : Ty) (v : Int) : canonical t v = true ↔ lo t ≤ v ∧ v ≤ hi t := by
  simp [canonical]

theorem canonical_lo (t : Ty) : canonical t (lo t) = true :=
  (canonical_iff_bounds t _).mpr ⟨le_refl _, lo_le_hi t⟩

theorem canonical_hi (t : Ty) : canonical t (hi t) = true :=
  (canonical_iff_bounds t _).mpr ⟨lo_le_hi t, le_refl _⟩

/-- Settles O42: the bounds of the type are values of it, so their wrap does nothing, and their words read back as them. -/
theorem minvalAndMaxvalAreTheExtremes : Obligations.MinvalAndMaxvalAreTheExtremes := by
  intro t a b s ht
  exact ⟨decode_cmdWord 0x3E t a b, decode_cmdWord 0x3F t a b, lo t, hi t,
    perform_ok ht (wrap_of_canonical (canonical_lo t)) s, perform_ok ht (wrap_of_canonical (canonical_hi t)) s,
    ⟨_, val_word_of_canonical ht (canonical_lo t)⟩, ⟨_, val_word_of_canonical ht (canonical_hi t)⟩,
    fun x => (canonical_iff_bounds t _).mp (canonical_val t x)⟩

/-! ### Constants with operands -/

/-- Settles O43: BIT's window is SHL's, and FRACTION's numerator and denominator are read in two's complement. -/
theorem bitAndFractionResults : Obligations.BitAndFractionResults := by
  intro t a b s ht
  obtain ⟨hbit, hbitRange⟩ := perform_inWindow ht (window := shiftWindow t)
    (value := fun k => wrap t ((2 ^ k : Nat) : Int)) (result := fun k => wrap t (2 ^ k))
    (fun k _ => congrArg (wrap t) (Nat.cast_pow 2 k)) a s
  have hquotient : truncDiv (shiftLeft (s32 a) (frac t)) (s32 b) = (a.toInt * 2 ^ t.f.toNat).tdiv b.toInt := by
    rw [truncDiv, shiftLeft_eq, s32_eq_toInt, s32_eq_toInt]
  obtain ⟨hfraction, hfractionZero⟩ := perform_nonZero ht (d := s32 b) (congrArg (wrap t) hquotient) s
  refine ⟨decode_cmdWord 0x40 t a b, fun k hk hlt => hbit k hk ?_, fun hout => hbitRange ?_,
    decode_cmdWord 0x41 t a b, fun hden => hfraction (by rwa [s32_eq_toInt]),
    fun hden => hfractionZero (by rwa [s32_eq_toInt])⟩
  · exact (shiftWindow_iff t k).mpr ⟨Int.natCast_nonneg k, Int.ofNat_lt.mpr hlt⟩
  · rw [shiftWindow_iff, width_eq]
    omega

end Sys2Proof.Machine
end

section
/-! SUPPORT. Byte access on a legal type (43_constants_bytes_qformat.md R106 to R109): the bytes of a pattern as numbers and bit
by bit, and the image of ceil(N/8) bytes, which holds every bit of the pattern. -/

namespace Sys2Proof.Machine

/-! ### Reading bytes -/

theorem getByteOf_eq (p i : Nat) : getByteOf p i = p / 2 ^ (8 * i) % 256 := by
  rw [getByteOf, Nat.shiftRight_eq_div_pow]
  exact Nat.and_two_pow_sub_one_eq_mod _ 8

theorem byteWindow_iff (t : Ty) (i : Int) : byteWindow t i = true ↔ 0 ≤ i ∧ i < byteLength t := by
  simp [byteWindow]

/-- What FROMBYTES does on a legal type: the value of the image's bytes, or FormatError for another length
(60_exceptions.md R131). -/
theorem exec_frombytes {t : Ty} (ht : t.wellFormed = true) (a b : Word) (s : State) :
    (b.toInt = byteLength t →
        exec (.frombytes t a b) s = .next (s.respond (wrap t ((a.toNat % 2 ^ (8 * byteLength t) : Nat) : Int)))) ∧
      (b.toInt ≠ byteLength t → exec (.frombytes t a b) s = .next (s.raise .format)) := by
  have hexec : exec (.frombytes t a b) s = perform t (if s32 b ≠ (byteLength t : Int) then .error .format
      else .ok (wrap t ((a.toNat &&& (2 ^ (8 * byteLength t) - 1) : Nat) : Int))) s := rfl
  rw [hexec, s32_eq_toInt, Nat.and_two_pow_sub_one_eq_mod]
  refine ⟨fun hlen => ?_, fun hlen => ?_⟩
  · rw [if_neg (not_not.mpr hlen), perform_ok ht rfl]
  · rw [if_pos hlen, perform_legal ht, State.deliver_error]

/-- Settles O44: the bytes of the image are those of the value's residue modulo 2^N. -/
theorem byteImageResults : Obligations.ByteImageResults := by
  intro t a b s ht bytes
  obtain ⟨hfrom, hformat⟩ := exec_frombytes ht a b s
  obtain ⟨hget, hrange⟩ := perform_inWindow ht (window := byteWindow t)
    (value := fun i => (getByteOf (patVal t a) i : Int))
    (result := fun i => ((a.toNat % 2 ^ width t / 2 ^ (8 * i) % 256 : Nat) : Int))
    (fun i _ => by rw [getByteOf_eq, patVal_eq_mod]) b s
  refine ⟨decode_cmdWord 0x44 t a b, perform_ok ht (congrArg _ (patVal_eq_mod t a)) s,
    decode_cmdWord 0x45 t a b, hfrom, hformat,
    decode_cmdWord 0x46 t a b, fun i hi hlt => hget i hi ?_, fun hout => hrange ?_⟩
  · exact (byteWindow_iff t i).mpr ⟨Int.natCast_nonneg i, Int.ofNat_lt.mpr hlt⟩
  · rw [byteWindow_iff, byteLength, width_eq]
    omega

/-! ### The round trip -/

/-- The response word of a pattern has the pattern's bits. -/
theorem getLsbD_word_natCast (p : Nat) {i : Nat} (hi : i < 32) : (word p).getLsbD i = p.testBit i := by
  rw [word, BitVec.ofInt_natCast, BitVec.getLsbD_ofNat, decide_eq_true hi, Bool.true_and]

/-- A value is the wrap of any pattern with its N low bits (10_state.md R13). -/
theorem wrap_eq_val_of_testBit {t : Ty} (ht : t.wellFormed = true) {p : Nat} {x : Word}
    (h : ∀ i < width t, p.testBit i = x.getLsbD i) : wrap t p = val t x :=
  eq_val_of_bits ht (wrap_spec t p).1 fun i hi => (getLsbD_word_wrap ht p hi).trans (h i hi)

/-- The image has room for all N bits (20_memory.md R28). -/
theorem width_le_image (t : Ty) : width t ≤ 8 * byteLength t := by
  rw [byteLength]
  omega

/-- Settles O46: the image read back has the pattern's N bits, which fix the value. -/
theorem frombytesUndoesTobytes : Obligations.FrombytesUndoesTobytes := by
  intro t a len s ht hlen
  have hlenInt : len.toInt = byteLength t := by
    have hn := width_le_of_wellFormed ht
    rw [BitVec.toInt_eq_toNat_of_lt (by omega), hlen]
    rfl
  have hvalue : wrap t (((word (patVal t a)).toNat % 2 ^ (8 * byteLength t) : Nat) : Int) = val t a := by
    refine wrap_eq_val_of_testBit ht fun i hi => ?_
    rw [Nat.testBit_mod_two_pow, decide_eq_true (hi.trans_le (width_le_image t)), Bool.true_and, BitVec.testBit_toNat,
      getLsbD_word_natCast _ (hi.trans_le (width_le_of_wellFormed ht)), patVal_testBit t a hi]
  refine ⟨s.respond (patVal t a), perform_ok ht rfl s, ?_⟩
  rw [State.respond_r, (exec_frombytes ht _ len s).1 hlenInt, hvalue]

/-! ### Replacing a byte -/

/-- A replaced byte bit by bit: byte i is the new one, and every other bit stays (43_constants_bytes_qformat.md R109). -/
theorem setByteOf_testBit (p i : Nat) {y : Nat} (hy : y < 2 ^ 8) (j : Nat) :
    (setByteOf p i y).testBit j = if 8 * i ≤ j ∧ j < 8 * i + 8 then y.testBit (j - 8 * i) else p.testBit j := by
  have hmask : (0xFF : Nat).testBit (j - 8 * i) = decide (j - 8 * i < 8) := Nat.testBit_two_pow_sub_one 8 _
  rw [setByteOf, Nat.testBit_or, Nat.testBit_xor, Nat.testBit_and, Nat.testBit_shiftLeft, Nat.testBit_shiftLeft, hmask]
  by_cases hbelow : j < 8 * i
  · simp [hbelow.not_ge]
  by_cases habove : 8 * i + 8 ≤ j
  · have hout : ¬j - 8 * i < 8 := by omega
    simp [habove.not_gt, hout, testBit_of_le hy (Nat.le_of_not_lt hout)]
  · have hin : 8 * i ≤ j ∧ j < 8 * i + 8 := by omega
    have hoffset : j - 8 * i < 8 := by omega
    simp [hin, hoffset]

theorem setbyteByte_lt (b : Word) : setbyteByte b < 2 ^ 8 :=
  BitVec.isLt _

theorem setbyteByte_testBit (b : Word) {k : Nat} (hk : k < 8) : (setbyteByte b).testBit k = b.getLsbD k := by
  rw [setbyteByte, BitVec.testBit_toNat, BitVec.getLsbD_extractLsb', decide_eq_true hk, Bool.true_and, Nat.zero_add]

/-- SETBYTE's index is the signed reading of the 24 high bits. -/
theorem setbyteIndex_eq (b : Word) : setbyteIndex b = (b.extractLsb' 8 24).toInt := by
  rw [setbyteIndex, signExtensionIsTheTwosComplementReading, if_neg (by decide), BitVec.ofInt_natCast, BitVec.ofNat_toNat,
    BitVec.setWidth_eq]

/-- Settles O45: below the width, A's pattern with one byte replaced has the bits of A's word but for the new byte's. -/
theorem setbyteResultsBitByBit : Obligations.SetbyteResultsBitByBit := by
  intro t a b s ht bytes index
  have hindex : setbyteIndex b = index := setbyteIndex_eq b
  have hexec : exec (.setbyte t a b) s = perform t (inWindow (byteWindow t index)
      (wrap t (setByteOf (patVal t a) index.toNat (setbyteByte b) : Int))) s := by
    rw [← hindex]
    rfl
  refine ⟨decode_cmdWord 0x47 t a b, fun i hi hlt => ?_, fun hout => ?_⟩
  · have hin : byteWindow t i = true := (byteWindow_iff t i).mpr ⟨Int.natCast_nonneg i, Int.ofNat_lt.mpr hlt⟩
    rw [hexec, hi, hin, inWindow_true, Int.toNat_natCast]
    refine perform_wrap_pattern ht rfl (fun j hj => ?_) s
    rw [setByteOf_testBit _ _ (setbyteByte_lt b), patVal_testBit t a hj]
    split
    · next hbyte => exact setbyteByte_testBit b (by omega)
    · rfl
  · have hnot : ¬byteWindow t index = true := by
      rw [byteWindow_iff, byteLength, width_eq]
      omega
    rw [hexec, Bool.eq_false_of_not_eq_true hnot, inWindow_false, perform_legal ht, State.deliver_error]

end Sys2Proof.Machine
end

section
/-! SUPPORT. The Q-format scaler (43_constants_bytes_qformat.md R110, R111): a target descriptor is the word of its type, and a
rescale between two fraction widths is a product or a floor by a power of two. -/

namespace Sys2Proof.Machine

/-! ### Target descriptors -/

/-- The reserved bits of a descriptor (30_encoding.md R44). -/
theorem descriptor_reserved_eq_zero_iff (w : Word) :
    (w.extractLsb' 0 8 = 0 ∧ w.extractLsb' 22 10 = 0) ↔ w.toNat % 2 ^ 8 = 0 ∧ w.toNat / 2 ^ 22 = 0 := by
  rw [field_eq_zero_iff, field_eq_zero_iff]
  omega

theorem reserved_descriptor (t : Ty) :
    (descriptor t).extractLsb' 0 8 = 0 ∧ (descriptor t).extractLsb' 22 10 = 0 := by
  rw [descriptor_reserved_eq_zero_iff, descriptor, BitVec.toNat_ofNat]
  omega

/-- The descriptor of a legal type names that type. -/
theorem targetType_descriptor {t : Ty} (ht : t.wellFormed = true) : targetType (descriptor t) = .ok t := by
  simp [targetType, reserved_descriptor, ht]

/-- The descriptor of an illegal type is refused for its type (30_encoding.md R44, R46). -/
theorem targetType_descriptor_illegal {t : Ty} (ht : t.wellFormed = false) :
    targetType (descriptor t) = .error .unsupportedWidth := by
  simp [targetType, reserved_descriptor, ht]

theorem targetType_of_reserved {w : Word} (h : w.toNat % 2 ^ 8 ≠ 0 ∨ w.toNat / 2 ^ 22 ≠ 0) :
    targetType w = .error .illegalCommand := by
  rw [targetType, if_neg (by rw [descriptor_reserved_eq_zero_iff]; omega)]

/-! ### Rescaling -/

/-- A rescale to d more fraction bits is exact. -/
theorem shiftscale_of_add {f g : Nat} (v : Int) {d : Nat} (h : g = f + d) : shiftscale v ((g : Int) - f) = v * 2 ^ d := by
  have hd : (g : Int) - f = d := by omega
  rw [hd, shiftscale, if_pos (Int.natCast_nonneg d), Int.toNat_natCast, shiftLeft_eq]

/-- A rescale to d fewer fraction bits is a floor; for d = 0 it leaves the value, as the floor by 1 does. -/
theorem shiftscale_of_sub {f g : Nat} (v : Int) {d : Nat} (h : f = g + d) : shiftscale v ((g : Int) - f) = v / 2 ^ d := by
  obtain rfl | hpos := Nat.eq_zero_or_pos d
  · rw [shiftscale_of_add v (show g = f + 0 from h.symm), pow_zero, mul_one, Int.ediv_one]
  · have hd : -((g : Int) - f) = d := by omega
    rw [shiftscale, if_neg (by omega), hd, Int.toNat_natCast, shiftRight_eq]

/-- What CONVERT responds with for the descriptor of a legal type. -/
theorem exec_convert_descriptor {t t' : Ty} (ht : t.wellFormed = true) (ht' : t'.wellFormed = true) (a : Word) (s : State) :
    exec (.convert t a (descriptor t')) s =
      .next (s.respond (wrap t' (shiftscale (val t a) ((frac t' : Int) - frac t)))) := by
  have hresult : convertResult t a (descriptor t') = .ok (wrap t' (shiftscale (val t a) ((frac t' : Int) - frac t))) := by
    rw [convertResult, targetType_descriptor ht']
  exact (congrArg (perform t · s) hresult).trans (perform_ok ht rfl s)

/-- CONVERT raises the error of its descriptor. -/
theorem exec_convert_error {t : Ty} (ht : t.wellFormed = true) (a : Word) {b : Word} {e : UnitError}
    (he : targetType b = .error e) (s : State) : exec (.convert t a b) s = .next (s.raise e) := by
  have hresult : convertResult t a b = .error e := by rw [convertResult, he]
  exact (congrArg (perform t · s) hresult).trans (perform_legal ht _ s)

/-- Settles O47, along what the descriptor can be: with reserved bits, of an illegal type, or of a legal one. -/
theorem convertResults : Obligations.ConvertResults := by
  intro t a b s ht
  refine ⟨decode_cmdWord 0x48 t a b, fun hreserved => exec_convert_error ht a (targetType_of_reserved hreserved) s, ?_⟩
  rintro t' rfl
  refine ⟨fun hillegal => exec_convert_error ht a (targetType_descriptor_illegal hillegal) s, fun ht' d => ?_⟩
  rw [exec_convert_descriptor ht ht', frac_eq, frac_eq]
  exact ⟨fun h => by rw [shiftscale_of_add _ h], fun h => by rw [shiftscale_of_sub _ h]⟩

/-! ### Changing the fraction width -/

theorem isFixed_eq_true_iff (k : Kind) : k.isFixed = true ↔ k = .fx ∨ k = .ufx := by
  cases k <;> decide

/-- On SI and UI, CONVFRAC is IllegalCommand (30_encoding.md R42). -/
theorem exec_convfrac_of_integer {t : Ty} (hk : t.kind = .si ∨ t.kind = .ui) (a b : Word) (s : State) :
    exec (.convfrac t a b) s = .next (s.raise .illegalCommand) := by
  have hfixed : ¬t.kind.isFixed = true := by obtain hk | hk := hk <;> rw [hk] <;> decide
  exact if_neg hfixed

/-- What CONVFRAC does on a legal fixed-point type: the rescaled value, or UnsupportedWidthError for a fraction width outside
0..N (43_constants_bytes_qformat.md R111). -/
theorem exec_convfrac {t : Ty} (ht : t.wellFormed = true) (hk : t.kind.isFixed = true) (a b : Word) (s : State) :
    (b.toInt < 0 ∨ width t < b.toInt → exec (.convfrac t a b) s = .next (s.raise .unsupportedWidth)) ∧
      (¬(b.toInt < 0 ∨ width t < b.toInt) →
        exec (.convfrac t a b) s = .next (s.respond (wrap t (shiftscale (val t a) (b.toInt - frac t))))) := by
  have hexec : exec (.convfrac t a b) s = perform t (convfracResult t a b) s := if_pos hk
  rw [hexec, convfracResult, s32_eq_toInt]
  refine ⟨fun hout => ?_, fun hin => ?_⟩
  · rw [if_pos hout, perform_legal ht, State.deliver_error]
  · rw [if_neg hin, perform_ok ht rfl]

/-- A fixed-point type stays legal with any fraction width up to N (30_encoding.md R40). -/
theorem wellFormed_with_frac {t : Ty} (ht : t.wellFormed = true) (hk : t.kind = .fx ∨ t.kind = .ufx) {g : BitVec 6}
    (hg : g.toNat ≤ t.n.toNat) : Ty.wellFormed ⟨t.kind, t.n, g⟩ = true := by
  obtain ⟨hn, -, -⟩ := (wellFormed_iff t).mp ht
  refine (wellFormed_iff _).mpr ⟨hn, fun hint => ?_, fun _ => hg⟩
  obtain hk | hk := hk <;> simp [hk] at hint

/-- Settles O48: the type (K, N, g) is legal and wraps as (K, N, F) does, so both commands respond with one value. -/
theorem convfracIsConvertToTheNewFraction : Obligations.ConvfracIsConvertToTheNewFraction := by
  refine fun t a b s => ⟨fun hk => exec_convfrac_of_integer hk a b s, fun hk ht => ?_⟩
  have hfixed := (isFixed_eq_true_iff t.kind).mpr hk
  obtain ⟨hout, hin⟩ := exec_convfrac ht hfixed a b s
  refine ⟨(decode_cmdWord 0x49 t a b).trans (if_pos hfixed), hout, fun g hg hle => ?_⟩
  have hconvert := exec_convert_descriptor ht (wellFormed_with_frac ht hk hle) a s
  have hresponse := hin (by rw [width_eq]; omega)
  rw [hg] at hresponse
  exact ⟨hresponse.trans hconvert.symm, _, hresponse⟩

end Sys2Proof.Machine
end

section
/-! SUPPORT. SIN, COS and TAN on a legal type (44_trig.md R112 to R121): the table read quadrant by quadrant, the responses
between two adjacent table points, and the phases at which the cosine is 0. -/

namespace Sys2Proof.Machine

/-! ### The commands on a phase -/

theorem exec_sin {t : Ty} (ht : t.wellFormed = true) (a : Word) (s : State) :
    exec (.sin t a) s = .next (s.respond (phaseSin .linear (width t) (a.toNat % 2 ^ width t))) :=
  perform_ok ht (congrArg _ (patVal_eq_mod t a)) s

theorem exec_cos {t : Ty} (ht : t.wellFormed = true) (a : Word) (s : State) :
    exec (.cos t a) s = .next (s.respond (phaseCos .linear (width t) (a.toNat % 2 ^ width t))) :=
  perform_ok ht (congrArg _ (patVal_eq_mod t a)) s

theorem exec_tan {t : Ty} (ht : t.wellFormed = true) (a : Word) (s : State) :
    exec (.tan t a) s = .next (s.respond (tangent (phaseSin .linear (width t) (a.toNat % 2 ^ width t))
      (phaseCos .linear (width t) (a.toNat % 2 ^ width t)))) :=
  perform_ok ht (by rw [patVal_eq_mod]; rfl) s

/-! ### The sine of a 14-bit phase -/

/-- The quadrant decoder on a phase given by its quadrant and its index (44_trig.md R116). -/
theorem sin14_quadrant (q : Nat) {i : Nat} (hi : i < 4096) :
    sin14 (4096 * q + i) =
      if q < 2 then (lut (if q = 1 ∨ q = 3 then 4095 - i else i) : Int)
      else -(lut (if q = 1 ∨ q = 3 then 4095 - i else i) : Int) := by
  have hdiv : (4096 * q + i) / 2 ^ 12 = q := by omega
  have hmod : (4096 * q + i) % 2 ^ 12 = i := by omega
  simp only [sin14, hdiv, hmod, ← not_lt, ite_not]

/-- In the first half turn the table is read forward and then backward. -/
theorem sin14_of_lt_half {p : Nat} (hp : p < 8192) : sin14 p = lut (min p (8191 - p)) := by
  obtain hlt | hge := Nat.lt_or_ge p 4096
  · simpa [show min p (8191 - p) = p by omega] using sin14_quadrant 0 hlt
  · have h := sin14_quadrant 1 (show p - 4096 < 4096 by omega)
    rw [show 4096 * 1 + (p - 4096) = p by omega] at h
    simpa [show min p (8191 - p) = 4095 - (p - 4096) by omega] using h

/-- The second half turn is the first one negated. -/
theorem sin14_add_half {p : Nat} (hp : p < 8192) : sin14 (p + 8192) = -sin14 p := by
  have hindex : p % 4096 < 4096 := Nat.mod_lt _ (by decide)
  have hhalf := sin14_quadrant (p / 4096 + 2) hindex
  have hfirst := sin14_quadrant (p / 4096) hindex
  rw [show 4096 * (p / 4096 + 2) + p % 4096 = p + 8192 by omega] at hhalf
  rw [Nat.div_add_mod] at hfirst
  rw [hhalf, hfirst]
  obtain hq | hq : p / 4096 = 0 ∨ p / 4096 = 1 := by omega
  all_goals simp [hq]

theorem sin14_bounds {p : Nat} (hp : p < 16384) : -65536 ≤ sin14 p ∧ sin14 p ≤ 65536 := by
  have hlut {i : Nat} (hi : i ≤ 4095) : lut i ≤ 65536 := (tableIsNonDecreasing.2.2 i i le_rfl hi).2
  obtain hlt | hge := Nat.lt_or_ge p 8192
  · have := hlut (show min p (8191 - p) ≤ 4095 by omega)
    rw [sin14_of_lt_half hlt]
    omega
  · have := hlut (show min (p - 8192) (8191 - (p - 8192)) ≤ 4095 by omega)
    rw [show p = p - 8192 + 8192 by omega, sin14_add_half (by omega), sin14_of_lt_half (by omega)]
    omega

theorem sin14_pos {p : Nat} (h0 : 0 < p) (h1 : p < 8191) : 1 ≤ sin14 p := by
  have hone : 1 ≤ lut 1 := by decide
  have := hone.trans (lut_mono (show 1 ≤ min p (8191 - p) by omega) (by omega))
  rw [sin14_of_lt_half (by omega)]
  omega

theorem sin14_neg {p : Nat} (h0 : 8192 < p) (h1 : p < 16383) : sin14 p ≤ -1 := by
  have := sin14_pos (p := p - 8192) (by omega) (by omega)
  rw [show p = p - 8192 + 8192 by omega, sin14_add_half (by omega)]
  omega

/-- Around a quarter turn only the last ten table entries are read (10_state.md R17). -/
theorem sin14_crest {p : Nat} (hlo : 4086 ≤ p) (hhi : p ≤ 4105) : sin14 p = 65536 := by
  rw [sin14_of_lt_half (by omega), tableIsNonDecreasing.2.1 _ (by omega) (by omega)]
  rfl

theorem sin14_trough {p : Nat} (hlo : 12278 ≤ p) (hhi : p ≤ 12297) : sin14 p = -65536 := by
  rw [show p = p - 8192 + 8192 by omega, sin14_add_half (by omega), sin14_crest (by omega) (by omega)]

/-! ### Widths up to 14 -/

/-- A phase of at most 14 bits is not cut by its rescaling (44_trig.md R115). -/
theorem rescale14_spec {n p : Nat} (hn : n ≤ 14) (hp : p < 2 ^ n) :
    rescale14 n p = p * 2 ^ (14 - n) ∧ p * 2 ^ (14 - n) < 16384 := by
  have hlt : p * 2 ^ (14 - n) < 2 ^ n * 2 ^ (14 - n) := Nat.mul_lt_mul_of_pos_right hp (Nat.two_pow_pos _)
  rw [← pow_add, Nat.add_sub_cancel' hn] at hlt
  exact ⟨Nat.mod_eq_of_lt hlt, hlt⟩

/-- A quarter turn of an N-bit phase, rescaled, is a quarter turn of a 14-bit phase. -/
theorem quarter_turn_rescaled {n : Nat} (h2 : 2 ≤ n) (h14 : n ≤ 14) : 2 ^ (n - 2) * 2 ^ (14 - n) = 4096 := by
  rw [← pow_add, show n - 2 + (14 - n) = 12 by omega]
  rfl

/-- Settles O51: the rescaled phase is 4096 times the quadrant plus the index, on which the quadrant decoder acts. -/
theorem sinFollowsTheSixSteps : Obligations.SinFollowsTheSixSteps := by
  intro t a s ht h2 h14 phase quadrant index mirrored
  have hquarter := quarter_turn_rescaled h2 h14
  have hphase : phase * 2 ^ (14 - t.n.toNat) = 4096 * quadrant + index := by
    rw [← hquarter, mul_right_comm, ← add_mul, Nat.div_add_mod]
  have hindex : index < 4096 :=
    hquarter ▸ Nat.mul_lt_mul_of_pos_right (Nat.mod_lt _ (Nat.two_pow_pos _)) (Nat.two_pow_pos _)
  have hp : phase < 2 ^ t.n.toNat := Nat.mod_lt _ (Nat.two_pow_pos _)
  rw [exec_sin ht, width_eq, phaseSin, if_pos h14, (rescale14_spec h14 hp).1, hphase, sin14_quadrant _ hindex]

/-- Settles O54: at these widths the phases are 0 and 1, a half turn apart. -/
theorem sinAndCosBelowTwoBits : Obligations.SinAndCosBelowTwoBits := by
  intro t a s ht
  have hphase : a.toNat % 2 ^ 1 = 0 ∧ a.getLsbD 0 = false ∨ a.toNat % 2 ^ 1 = 1 ∧ a.getLsbD 0 = true := by
    rw [← BitVec.testBit_toNat, Nat.testBit_zero, pow_one]
    simpa using Nat.mod_two_eq_zero_or_one a.toNat
  have hsin : ∀ n < 2, ∀ p < 2 ^ n, phaseSin .linear n p = 0 := by decide
  have hcos0 : phaseCos .linear 0 0 = 65536 := by decide
  have hcos1 : phaseCos .linear 1 0 = 65536 ∧ phaseCos .linear 1 1 = -65536 := by decide
  refine ⟨fun hn => ?_, fun hn => ?_, fun hn => ?_⟩
  · rw [exec_sin ht, hsin _ hn _ (Nat.mod_lt _ (Nat.two_pow_pos _))]
  · rw [exec_cos ht, width_eq, hn, pow_zero, Nat.mod_one, hcos0]
  · rw [exec_cos ht, width_eq, hn]
    obtain ⟨hp, hbit⟩ | ⟨hp, hbit⟩ := hphase
    · rw [hp, hbit, hcos1.1]
      rfl
    · rw [hp, hbit, hcos1.2]
      rfl

/-! ### Widths above 14 -/

/-- The interpolation in LINEAR mode, with its shift as a floor division (44_trig.md R117). -/
theorem phaseSin_linear {n : Nat} (hn : 14 < n) (p : Nat) :
    phaseSin .linear n p = sin14 (p / 2 ^ (n - 14)) +
      (sin14 ((p / 2 ^ (n - 14) + 1) % 2 ^ 14) - sin14 (p / 2 ^ (n - 14))) * (p % 2 ^ (n - 14) : Nat) /
        2 ^ (n - 14) := by
  rw [phaseSin, if_neg (by omega), interpolated]
  simp only [shiftRight_eq]

theorem point_lt {n p : Nat} (hn : 14 < n) (hp : p < 2 ^ n) : p / 2 ^ (n - 14) < 16384 := by
  rw [Nat.div_lt_iff_lt_mul (Nat.two_pow_pos _), show 16384 = 2 ^ 14 by rfl, ← pow_add,
    show 14 + (n - 14) = n by omega]
  exact hp

/-- SIN of a 14-bit phase is the table read itself. -/
theorem exec_sin_ui14 {p : Nat} (hp : p < 16384) (s : State) :
    exec (.sin ⟨.ui, 14, 0⟩ (BitVec.ofNat 32 p)) s = .next (s.respond (sin14 p)) := by
  have hphase : (BitVec.ofNat 32 p).toNat % 2 ^ 14 = p := by
    rw [BitVec.toNat_ofNat]
    omega
  have hsin : phaseSin .linear 14 p = sin14 p := by
    rw [phaseSin, if_pos le_rfl, (rescale14_spec le_rfl hp).1, Nat.sub_self, pow_zero, mul_one]
  have h := exec_sin (t := ⟨.ui, 14, 0⟩) (by decide) (BitVec.ofNat 32 p) s
  rwa [show width ⟨.ui, 14, 0⟩ = 14 from rfl, hphase, hsin] at h

/-- Settles O52: the two amplitudes are the table reads, and the floor of the fraction is the floor division. -/
theorem sinInterpolatesAboveFourteenBits : Obligations.SinInterpolatesAboveFourteenBits := by
  intro t a b s ht hn d phase point
  have hp : point < 16384 := point_lt hn (Nat.mod_lt _ (Nat.two_pow_pos _))
  have hp' : (point + 1) % 2 ^ 14 < 16384 := Nat.mod_lt _ (by decide)
  obtain ⟨hlo, hhi⟩ := sin14_bounds hp
  obtain ⟨hlo', hhi'⟩ := sin14_bounds hp'
  refine ⟨decode_cmdWord 0x50 t a b, _, _, hlo, hhi, hlo', hhi', exec_sin_ui14 hp s, exec_sin_ui14 hp' s, ?_⟩
  have hfloor : ⌊((sin14 ((point + 1) % 2 ^ 14) - sin14 point) * (phase % 2 ^ d : Nat) : ℚ) / 2 ^ d⌋ =
      (sin14 ((point + 1) % 2 ^ 14) - sin14 point) * (phase % 2 ^ d : Nat) / 2 ^ d := by
    have h := Rat.floor_intCast_div_natCast
      ((sin14 ((point + 1) % 2 ^ 14) - sin14 point) * (phase % 2 ^ d : Nat)) (2 ^ d)
    push_cast at h ⊢
    exact h
  rw [exec_sin ht, width_eq, phaseSin_linear hn, hfloor]

/-! ### Between two table points, at every width -/

/-- Floored linear interpolation stays between integer bounds of its two ends. -/
theorem linear_between {l h y0 y1 : Int} (h0 : l ≤ y0 ∧ y0 ≤ h) (h1 : l ≤ y1 ∧ y1 ≤ h) {r k : Int} (hr : 0 ≤ r)
    (hrk : r < k) : l ≤ y0 + (y1 - y0) * r / k ∧ y0 + (y1 - y0) * r / k ≤ h := by
  have hk : 0 < k := by omega
  have hlo : l - y0 ≤ (y1 - y0) * r / k := by
    rw [Int.le_ediv_iff_mul_le hk]
    calc (l - y0) * k ≤ (l - y0) * r := Int.mul_le_mul_of_nonpos_left (by omega) hrk.le
      _ ≤ (y1 - y0) * r := Int.mul_le_mul_of_nonneg_right (by omega) hr
  have hhi : (y1 - y0) * r / k ≤ h - y0 := by
    refine Int.ediv_le_of_le_mul hk ?_
    calc (y1 - y0) * r ≤ (h - y0) * r := Int.mul_le_mul_of_nonneg_right (by omega) hr
      _ ≤ (h - y0) * k := Int.mul_le_mul_of_nonneg_left hrk.le (by omega)
  omega

/-- The table point of an N-bit phase: the phase itself up to 14 bits, the point at or below it above 14. -/
def phase14 (n p : Nat) : Nat :=
  if n ≤ 14 then p * 2 ^ (14 - n) else p / 2 ^ (n - 14)

theorem phase14_lt {n p : Nat} (hp : p < 2 ^ n) : phase14 n p < 16384 := by
  unfold phase14
  split
  · exact (rescale14_spec ‹_› hp).2
  · exact point_lt (by omega) hp

/-- The sine of a phase lies within any bounds of the sines of its table point and the next one. -/
theorem phaseSin_between {n p : Nat} (hp : p < 2 ^ n) {l h : Int}
    (h0 : l ≤ sin14 (phase14 n p) ∧ sin14 (phase14 n p) ≤ h)
    (h1 : l ≤ sin14 ((phase14 n p + 1) % 16384) ∧ sin14 ((phase14 n p + 1) % 16384) ≤ h) :
    l ≤ phaseSin .linear n p ∧ phaseSin .linear n p ≤ h := by
  obtain hn | hn := Nat.lt_or_ge 14 n
  · rw [phase14, if_neg (by omega)] at h0 h1
    rw [phaseSin_linear hn]
    exact_mod_cast linear_between h0 h1 (Int.natCast_nonneg (p % 2 ^ (n - 14)))
      (Int.ofNat_lt.mpr (Nat.mod_lt p (Nat.two_pow_pos (n - 14))))
  · rw [phase14, if_pos hn] at h0
    rw [phaseSin, if_pos hn, (rescale14_spec hn hp).1]
    exact h0

/-- From 2 bits on, the quarter turn can be made on the N-bit phase (44_trig.md R120). -/
theorem phaseCos_eq_phaseSin {n : Nat} (h2 : 2 ≤ n) (p : Nat) :
    phaseCos .linear n p = phaseSin .linear n ((p + 2 ^ (n - 2)) % 2 ^ n) := by
  unfold phaseCos
  split
  · have hfull : 2 ^ n * 2 ^ (14 - n) = 2 ^ 14 := by rw [← pow_add, show n + (14 - n) = 14 by omega]
    rw [phaseSin, if_pos ‹_›, rescale14, ← Nat.mul_mod_mul_right, hfull, Nat.mod_mod, add_mul,
      quarter_turn_rescaled h2 ‹_›]
  · rfl

/-- Above 14 bits, a quarter turn of the phase is a quarter turn of its table point. -/
theorem phase14_quarter_turn {n : Nat} (hn : 14 < n) (p : Nat) :
    phase14 n ((p + 2 ^ (n - 2)) % 2 ^ n) = (phase14 n p + 4096) % 16384 := by
  have hquarter : 2 ^ (n - 2) = 4096 * 2 ^ (n - 14) := by
    rw [show 4096 = 2 ^ 12 by rfl, ← pow_add, show 12 + (n - 14) = n - 2 by omega]
  have hfull : 2 ^ n = 16384 * 2 ^ (n - 14) := by
    rw [show 16384 = 2 ^ 14 by rfl, ← pow_add, show 14 + (n - 14) = n by omega]
  rw [phase14, phase14, if_neg (by omega), if_neg (by omega), hquarter, hfull, Nat.mod_mul_left_div_self,
    Nat.add_mul_div_right _ _ (Nat.two_pow_pos _)]

/-- The cosine of a phase lies within any bounds of the sines a quarter turn on from its table point and the next one. -/
theorem phaseCos_between {n p : Nat} {l h : Int}
    (h0 : l ≤ sin14 ((phase14 n p + 4096) % 16384) ∧ sin14 ((phase14 n p + 4096) % 16384) ≤ h)
    (h1 : l ≤ sin14 ((phase14 n p + 4097) % 16384) ∧ sin14 ((phase14 n p + 4097) % 16384) ≤ h) :
    l ≤ phaseCos .linear n p ∧ phaseCos .linear n p ≤ h := by
  obtain hn | hn := Nat.lt_or_ge 14 n
  · rw [phaseCos_eq_phaseSin (by omega)]
    rw [← phase14_quarter_turn hn] at h0
    refine phaseSin_between (Nat.mod_lt _ (Nat.two_pow_pos _)) h0 ?_
    rw [phase14_quarter_turn hn, Nat.mod_add_mod]
    exact h1
  · rw [phase14, if_pos hn] at h0
    rw [phaseCos, if_pos hn]
    exact h0

theorem phaseSin_bounds {n p : Nat} (hp : p < 2 ^ n) :
    -65536 ≤ phaseSin .linear n p ∧ phaseSin .linear n p ≤ 65536 :=
  phaseSin_between hp (sin14_bounds (phase14_lt hp)) (sin14_bounds (Nat.mod_lt _ (by decide)))

theorem phaseCos_bounds (n p : Nat) : -65536 ≤ phaseCos .linear n p ∧ phaseCos .linear n p ≤ 65536 :=
  phaseCos_between (sin14_bounds (Nat.mod_lt _ (by decide))) (sin14_bounds (Nat.mod_lt _ (by decide)))

/-- Settles O53: the command's phase and the other operand's phase are a quarter turn apart. -/
theorem cosIsSinAQuarterTurnOn : Obligations.CosIsSinAQuarterTurnOn := by
  intro t a a' b s ht h2 ha
  obtain ⟨hlo, hhi⟩ := phaseCos_bounds (width t) (a.toNat % 2 ^ width t)
  refine ⟨decode_cmdWord 0x51 t a b, ?_, _, hlo, hhi, exec_cos ht a s⟩
  rw [exec_cos ht, exec_sin ht, phaseCos_eq_phaseSin h2, Nat.mod_add_mod, width_eq, ha]

/-! ### The tangent -/

/-- The cosine is 0 only next to a quarter turn and to three quarter turns: elsewhere both points it lies between have one
sign. -/
theorem phase14_of_phaseCos_eq_zero {n p : Nat} (hp : p < 2 ^ n) (h : phaseCos .linear n p = 0) :
    (4094 ≤ phase14 n p ∧ phase14 n p ≤ 4096) ∨ (12286 ≤ phase14 n p ∧ phase14 n p ≤ 12288) := by
  have hlt := phase14_lt hp
  have hbounds (q : Nat) := sin14_bounds (Nat.mod_lt q (show 16384 > 0 by decide))
  by_contra hfar
  by_cases hleft : 4096 < phase14 n p ∧ phase14 n p < 12286
  · have := phaseCos_between (n := n) (p := p) ⟨(hbounds _).1, sin14_neg (by omega) (by omega)⟩
      ⟨(hbounds _).1, sin14_neg (by omega) (by omega)⟩
    omega
  · have := phaseCos_between (n := n) (p := p) ⟨sin14_pos (by omega) (by omega), (hbounds _).2⟩
      ⟨sin14_pos (by omega) (by omega), (hbounds _).2⟩
    omega

/-- No phase has sine and cosine 0: where the cosine is 0, the sine is at its crest or its trough. -/
theorem phaseSin_ne_zero_of_phaseCos_eq_zero {n p : Nat} (hp : p < 2 ^ n) (h : phaseCos .linear n p = 0) :
    phaseSin .linear n p ≠ 0 := by
  obtain ⟨hlo, hhi⟩ | ⟨hlo, hhi⟩ := phase14_of_phaseCos_eq_zero hp h
  · have hsin {q : Nat} (hq : 4094 ≤ q ∧ q ≤ 4097) : 1 ≤ sin14 q ∧ sin14 q ≤ 65536 := by
      rw [sin14_crest (by omega) (by omega)]
      decide
    have := phaseSin_between hp (hsin ⟨hlo, by omega⟩) (hsin (by omega))
    omega
  · have hsin {q : Nat} (hq : 12286 ≤ q ∧ q ≤ 12289) : -65536 ≤ sin14 q ∧ sin14 q ≤ -1 := by
      rw [sin14_trough (by omega) (by omega)]
      decide
    have := phaseSin_between hp (hsin ⟨hlo, by omega⟩) (hsin (by omega))
    omega

/-- The tangent divider in one equation, along its three answers. -/
theorem tangent_eq (x y : Int) : tangent x y =
    if y = 0 then (if x < 0 then -(2 ^ 31 - 1) else 2 ^ 31 - 1)
    else max (-(2 ^ 31 - 1)) (min (2 ^ 31 - 1) ((x * 2 ^ 16).tdiv y)) := by
  obtain ⟨rfl, hx, h⟩ | ⟨rfl, hx, h⟩ | ⟨hy, -, -, h⟩ := tangent_cases x y
  · rw [h, if_pos rfl, if_pos hx]
    rfl
  · rw [h, if_pos rfl, if_neg (not_lt.mpr hx)]
    rfl
  · obtain ⟨hlo, hhi, hinside, hbelow, habove⟩ :=
      clamp_spec (v := (x * 65536).tdiv y) (show -tanSentinel ≤ tanSentinel by decide)
    rw [h, if_neg hy, show x * 2 ^ 16 = x * 65536 by rfl]
    simp only [tanSentinel] at *
    omega

/-- Settles O55: the divider is applied to the two amplitudes the commands respond with. -/
theorem tanResults : Obligations.TanResults := by
  intro t a b s ht
  have hp : a.toNat % 2 ^ width t < 2 ^ width t := Nat.mod_lt _ (Nat.two_pow_pos _)
  obtain ⟨hsin_lo, hsin_hi⟩ := phaseSin_bounds hp
  obtain ⟨hcos_lo, hcos_hi⟩ := phaseCos_bounds (width t) (a.toNat % 2 ^ width t)
  refine ⟨decode_cmdWord 0x52 t a b, _, _, hsin_lo, hsin_hi, hcos_lo, hcos_hi, exec_sin ht a s, exec_cos ht a s, ?_,
    phaseSin_ne_zero_of_phaseCos_eq_zero hp⟩
  rw [exec_tan ht, tangent_eq]

end Sys2Proof.Machine
end

section
/-! SUPPORT. The ratio mapper (44_trig.md R122): the operand as a fraction, its clamp, and the rounding to the Q16.16 grid, with
the order that each step keeps. -/

namespace Sys2Proof.Machine

theorem signedMax_rat {n : Nat} (hn : n ≠ 0) : ((signedMax n : Int) : ℚ) = 2 ^ (n - 1) - 1 := by
  rw [signedMax, if_neg hn]
  push_cast
  rfl

theorem unsignedMax_rat (n : Nat) : ((unsignedMax n : Int) : ℚ) = 2 ^ n - 1 := by
  rw [unsignedMax, mask_cast]
  push_cast
  rfl

/-- From 2 bits on, the operand's ratio has a positive denominator. -/
theorem ratio_den_pos {t : Ty} (hn : 2 ≤ t.n.toNat) (v : Int) : 0 < (ratio t v).2 := by
  have hsigned : 1 < 2 ^ (t.n.toNat - 1) := Nat.one_lt_two_pow (by omega)
  have hunsigned : 1 < 2 ^ t.n.toNat := Nat.one_lt_two_pow (by omega)
  unfold ratio
  cases t.kind with
  | si =>
    simp only [signedMax, width_eq]
    rw [if_neg (by omega)]
    omega
  | fx => exact two_pow_pos _
  | ui | ufx =>
    simp only [unsignedMax, mask, width_eq]
    omega

/-- The clamp to ±den is the clamp of the fraction to [−1, 1]. -/
theorem clamp_div {num den : Int} (hden : 0 < den) :
    (clamp num (-den) den : ℚ) / den = max (-1) (min 1 ((num : ℚ) / den)) := by
  have hden' : (0 : ℚ) < den := by exact_mod_cast hden
  have hclamp : clamp num (-den) den = max (-den) (min den num) := by
    obtain ⟨hlo, hhi, hinside, hbelow, habove⟩ := clamp_spec (v := num) (show -den ≤ den by omega)
    omega
  rw [hclamp, Int.cast_max, Int.cast_min, Int.cast_neg, ← max_div_div_right hden'.le, ← min_div_div_right hden'.le,
    neg_div, div_self hden'.ne']

/-! ### The rounding -/

theorem RoundsTo.neg {rule : TieRule} {num den n : Int} (h : RoundsTo rule num den n) :
    RoundsTo rule (-num) den (-n) := by
  obtain ⟨hnear, htie⟩ := h
  have hdist : |-n * den - -num| = |n * den - num| := by
    rw [← abs_neg]
    congr 1
    ring
  rw [RoundsTo, hdist]
  refine ⟨hnear, fun heq => ?_⟩
  obtain ⟨heven, haway⟩ := htie heq
  refine ⟨fun hrule => ?_, fun hrule => ?_⟩
  · have := heven hrule
    omega
  · simpa using haway hrule

/-- Rounding half up takes the ties of a fraction that is not negative away from zero. -/
theorem roundsTo_half_up {num den : Int} (hden : 0 < den) (hnum : 0 ≤ num) :
    RoundsTo .away num den ((2 * num + den) / (2 * den)) := by
  have hfloor := Int.ediv_mul_le (2 * num + den) (show 2 * den ≠ 0 by omega)
  have hceil := Int.lt_ediv_add_one_mul_self (2 * num + den) (show 0 < 2 * den by omega)
  rw [mul_left_comm] at hfloor
  rw [add_one_mul, mul_left_comm] at hceil
  unfold RoundsTo
  generalize (2 * num + den) / (2 * den) * den = p at hfloor hceil ⊢
  obtain ⟨hdist, hsign⟩ | ⟨hdist, hsign⟩ := abs_cases (p - num)
  · refine ⟨by omega, fun _ => ⟨nofun, fun _ => ?_⟩⟩
    rw [abs_of_nonneg hnum, abs_of_nonneg (by omega)]
    omega
  · exact ⟨by omega, fun _ => by omega⟩

/-- `round_away` rounds to the nearest integer, ties away from zero (00_scope.md section 5). -/
theorem roundsTo_roundAway {num den : Int} (hden : 0 < den) : RoundsTo .away num den (roundAway num den) := by
  unfold roundAway
  split
  · exact roundsTo_half_up hden ‹_›
  · simpa using (roundsTo_half_up hden (show 0 ≤ -num by omega)).neg

/-- Settles O56: what is rounded is the clamped fraction, which the kind gives, times 65536. -/
theorem ratioIsRoundedToTheGrid : Obligations.RatioIsRoundedToTheGrid := by
  intro t v ht hn hv m x y
  have hden := ratio_den_pos hn v
  have hx : ((ratio t v).1 / (ratio t v).2 : ℚ) = x := by
    simp only [x, m, ratio]
    cases t.kind with
    | si => rw [width_eq, signedMax_rat (by omega)]
    | fx => rw [frac_eq, Nat.cast_pow, Nat.cast_ofNat, Int.cast_pow, Int.cast_ofNat]
    | ui | ufx => rw [width_eq, Int.cast_sub, Int.cast_mul, Int.cast_ofNat, unsignedMax_rat]
  have hy : ((clamp (ratio t v).1 (-(ratio t v).2) (ratio t v).2 * 65536 : Int) : ℚ) / (ratio t v).2 = y := by
    rw [Int.cast_mul, mul_div_right_comm, clamp_div hden, hx]
    rfl
  obtain ⟨hnear, htie⟩ := (roundsTo_roundAway hden).rat hden
  rw [hy] at hnear htie
  exact ⟨hnear, fun h => (htie h).2 rfl⟩

/-! ### The order -/

theorem ratio_mono (t : Ty) {v v' : Int} (h : v ≤ v') :
    (ratio t v).1 ≤ (ratio t v').1 ∧ (ratio t v).2 = (ratio t v').2 := by
  unfold ratio
  cases t.kind with
  | si | fx => exact ⟨h, rfl⟩
  | ui | ufx => exact ⟨Int.sub_le_sub_right (Int.mul_le_mul_of_nonneg_left h (by decide)) _, rfl⟩

theorem clamp_mono {v v' l h : Int} (hlh : l ≤ h) (hv : v ≤ v') : clamp v l h ≤ clamp v' l h := by
  obtain ⟨hlo, hhi, hinside, hbelow, habove⟩ := clamp_spec (v := v) hlh
  obtain ⟨hlo', hhi', hinside', hbelow', habove'⟩ := clamp_spec (v := v') hlh
  omega

theorem roundAway_mono {num num' den : Int} (hden : 0 < den) (h : num ≤ num') :
    roundAway num den ≤ roundAway num' den := by
  have hden2 : 0 < 2 * den := by omega
  unfold roundAway
  split_ifs with hsign hsign'
  · exact Int.ediv_le_ediv hden2 (by omega)
  · omega
  · have hnum : 0 ≤ (2 * -num + den) / (2 * den) := Int.ediv_nonneg (by omega) hden2.le
    have hnum' : 0 ≤ (2 * num' + den) / (2 * den) := Int.ediv_nonneg (by omega) hden2.le
    omega
  · exact Int.neg_le_neg (Int.ediv_le_ediv hden2 (by omega))

/-- The mapper keeps the order of the operands. -/
theorem ratioQ16_mono {t : Ty} (hn : 2 ≤ t.n.toNat) {v v' : Int} (h : v ≤ v') : ratioQ16 t v ≤ ratioQ16 t v' := by
  obtain ⟨hnum, hden⟩ := ratio_mono t h
  have hpos := ratio_den_pos hn v
  simp only [ratioQ16, ← hden]
  exact roundAway_mono hpos (Int.mul_le_mul_of_nonneg_right (clamp_mono (by omega) hnum) (by decide))

end Sys2Proof.Machine
end

section
/-! SUPPORT. The comparison of the arcsine evaluator (44_trig.md R123; log entry 6): it compares with x / 65536 a number that is
within 10^−20 of the exact sine, from the Taylor polynomial as an alternating series and from π to 20 decimals. -/

namespace Sys2Proof.Machine

/-- The sine's Taylor polynomial of degree 27. -/
noncomputable def sineTaylor (θ : ℝ) : ℝ :=
  ∑ i ∈ Finset.range 14, (-1) ^ i * (θ ^ (2 * i + 1) / ((2 * i + 1).factorial : ℝ))

theorem factorial_odd_succ (n : Nat) :
    ((2 * (n + 1) + 1).factorial : ℝ) = (2 * n + 3) * (2 * n + 2) * (2 * n + 1).factorial := by
  rw [show 2 * (n + 1) + 1 = 2 * n + 1 + 1 + 1 by ring, Nat.factorial_succ, Nat.factorial_succ]
  push_cast
  ring

/-! ### The Horner form -/

theorem sineFactor_den_pos {u2 v2 : Int} (hv : 0 < v2) (terms : Nat) {j : Nat} (hj : 0 < j) :
    0 < (sineFactor u2 v2 terms j).2 := by
  induction terms generalizing j with
  | zero => exact one_pos
  | succ terms ih =>
    have h := ih j.succ_pos
    simp only [sineFactor, sineStep]
    positivity

/-- The Horner form from the term j + 1 on is the rest of the series from there, without the factor it has in common. -/
theorem sineFactor_div {u2 v2 : Int} (hv : 0 < v2) (terms j : Nat) :
    ((sineFactor u2 v2 terms (j + 1)).1 : ℝ) / (sineFactor u2 v2 terms (j + 1)).2 =
      ∑ i ∈ Finset.range (terms + 1),
        (-1) ^ i * ((u2 / v2 : ℝ) ^ i * ((2 * j + 1).factorial / (2 * j + 1 + 2 * i).factorial)) := by
  induction terms generalizing j with
  | zero => simp [sineFactor, Nat.factorial_ne_zero]
  | succ terms ih =>
    have hden : ((sineFactor u2 v2 terms (j + 1 + 1)).2 : ℝ) ≠ 0 := by
      exact_mod_cast (sineFactor_den_pos hv terms (Nat.succ_pos _)).ne'
    have hv' : (v2 : ℝ) ≠ 0 := by exact_mod_cast hv.ne'
    have hstep : ((sineFactor u2 v2 (terms + 1) (j + 1)).1 : ℝ) / (sineFactor u2 v2 (terms + 1) (j + 1)).2 =
        1 - u2 / v2 / ((2 * j + 2) * (2 * j + 3)) *
          ((sineFactor u2 v2 terms (j + 1 + 1)).1 / (sineFactor u2 v2 terms (j + 1 + 1)).2) := by
      simp only [sineFactor, sineStep]
      push_cast
      field_simp
      ring
    rw [hstep, ih, Finset.sum_range_succ' _ (terms + 1), Finset.mul_sum, sub_eq_add_neg, add_comm,
      ← Finset.sum_neg_distrib]
    generalize (u2 / v2 : ℝ) = z
    congr 1
    · refine Finset.sum_congr rfl fun i _ => ?_
      rw [show 2 * j + 1 + 2 * (i + 1) = 2 * (j + 1) + 1 + 2 * i by ring, factorial_odd_succ]
      field_simp
      ring
    · simp [Nat.factorial_ne_zero]

/-- The integer comparison is the comparison of the Taylor polynomial. -/
theorem sineAtMost_iff {u v : Int} (hv : 0 < v) (x : Int) :
    sineAtMost u v x = true ↔ sineTaylor (u / v) ≤ x / 65536 := by
  have hden : (0 : ℝ) < (sineFactor (u * u) (v * v) 13 1).2 := by
    exact_mod_cast sineFactor_den_pos (mul_pos hv hv) 13 one_pos
  have hv' : (0 : ℝ) < v := by exact_mod_cast hv
  have htaylor : sineTaylor (u / v) =
      u * (sineFactor (u * u) (v * v) 13 1).1 / (v * (sineFactor (u * u) (v * v) 13 1).2) := by
    rw [mul_div_mul_comm, sineFactor_div (mul_pos hv hv) 13 0, Finset.mul_sum, sineTaylor]
    refine Finset.sum_congr rfl fun i _ => ?_
    push_cast
    rw [show 2 * 0 + 1 + 2 * i = 2 * i + 1 by ring, Nat.factorial_one, Nat.cast_one]
    ring
  rw [htaylor, div_le_div_iff₀ (by positivity) (by norm_num)]
  simp only [sineAtMost, decide_eq_true_eq]
  norm_cast

/-! ### The Taylor polynomial and the sine -/

theorem sine_terms_antitone {θ : ℝ} (h0 : 0 ≤ θ) (h2 : θ ≤ 2) :
    Antitone fun i : Nat => θ ^ (2 * i + 1) / ((2 * i + 1).factorial : ℝ) := by
  refine antitone_nat_of_succ_le fun i => ?_
  have hsq : θ ^ 2 ≤ (2 * i + 3) * (2 * i + 2) := by
    have hi : (0 : ℝ) ≤ i := i.cast_nonneg
    nlinarith
  rw [factorial_odd_succ, div_le_div_iff₀ (by positivity) (by positivity)]
  calc θ ^ (2 * (i + 1) + 1) * (2 * i + 1).factorial = θ ^ 2 * (θ ^ (2 * i + 1) * (2 * i + 1).factorial) := by ring
    _ ≤ (2 * i + 3) * (2 * i + 2) * (θ ^ (2 * i + 1) * (2 * i + 1).factorial) := by gcongr
    _ = _ := by ring

/-- The terms decrease, so the polynomial is off by at most the first term left out. -/
theorem abs_sineTaylor_sub_sin_le {θ : ℝ} (h0 : 0 ≤ θ) (h2 : θ ≤ 2) : |sineTaylor θ - Real.sin θ| ≤ 1 / 10 ^ 21 := by
  have hseries := alternating_series_error_bound _ (sine_terms_antitone h0 h2) (Real.hasSum_sinh θ).summable 14
  simp only [← mul_div_assoc, (Real.hasSum_sin θ).tsum_eq] at hseries
  rw [abs_sub_comm, sineTaylor]
  simp only [← mul_div_assoc]
  calc _ ≤ _ := hseries
    _ ≤ 2 ^ (2 * 14 + 1) / ((2 * 14 + 1).factorial : ℝ) := by gcongr
    _ ≤ 1 / 10 ^ 21 := by norm_num [Nat.factorial]

theorem abs_piNum_div_piDen_sub_pi_le : |(piNum / piDen : ℝ) - Real.pi| ≤ 1 / 10 ^ 20 := by
  have hlo := Real.pi_gt_d20
  have hhi := Real.pi_lt_d20
  norm_num [piNum, piDen, abs_le]
  constructor <;> linarith

/-! ### The angles compared -/

/-- The angle whose scaled value is the rounding tie k − 1/2. -/
noncomputable def roundingAngle (m k : Nat) : ℝ :=
  (2 * k - 1) / (4 * m) * Real.pi

section RoundingAngle

variable {m k : Nat}

theorem roundingAngle_factor_bounds (hk : 1 ≤ k) (hkm : k ≤ m) :
    (0 : ℝ) ≤ (2 * k - 1) / (4 * m) ∧ ((2 * k - 1) / (4 * m) : ℝ) ≤ 1 / 2 - 1 / (4 * m) := by
  have hk' : (1 : ℝ) ≤ k := by exact_mod_cast hk
  have hkm' : (k : ℝ) ≤ m := by exact_mod_cast hkm
  have hm : (0 : ℝ) < m := by linarith
  refine ⟨div_nonneg (by linarith) (by linarith), ?_⟩
  rw [div_sub_div _ _ two_ne_zero (by positivity), div_le_div_iff₀ (by positivity) (by positivity)]
  nlinarith

theorem roundingAngle_bounds (hk : 1 ≤ k) (hkm : k ≤ m) :
    0 ≤ roundingAngle m k ∧ roundingAngle m k ≤ Real.pi / 2 - Real.pi / (4 * m) := by
  obtain ⟨h0, h1⟩ := roundingAngle_factor_bounds hk hkm
  refine ⟨mul_nonneg h0 Real.pi_pos.le, ?_⟩
  calc _ ≤ (1 / 2 - 1 / (4 * m)) * Real.pi := mul_le_mul_of_nonneg_right h1 Real.pi_pos.le
    _ = _ := by ring

/-- What the evaluator compares with x / 65536 is close to the exact sine of the angle. -/
theorem angleAtMost_compares (hk : 1 ≤ k) (hkm : k ≤ m) (x : Nat) :
    ∃ approx : ℝ, |approx - Real.sin (roundingAngle m k)| ≤ 1 / 10 ^ 20 ∧
      (angleAtMost m x k = true ↔ approx ≤ x / 65536) := by
  obtain ⟨h0, h1⟩ := roundingAngle_factor_bounds hk hkm
  have hm : 0 ≤ 1 / (4 * m : ℝ) := by positivity
  have hhalf : ((2 * k - 1) / (4 * m) : ℝ) ≤ 1 / 2 := by linarith
  have hpi := abs_piNum_div_piDen_sub_pi_le
  have hpi0 : (0 : ℝ) ≤ piNum / piDen := by positivity
  have hpi4 : (piNum / piDen : ℝ) ≤ 4 := by norm_num [piNum, piDen]
  have hv : (0 : Int) < 4 * (m : Int) * (piDen : Int) := by
    have : 0 < m := by omega
    simp only [piDen]
    positivity
  refine ⟨sineTaylor ((2 * k - 1) / (4 * m) * (piNum / piDen)), ?_, ?_⟩
  · have htaylor := abs_sineTaylor_sub_sin_le (mul_nonneg h0 hpi0)
      ((mul_le_mul hhalf hpi4 hpi0 (by norm_num)).trans (by norm_num))
    have hangle := Real.abs_sin_sub_sin_le ((2 * k - 1) / (4 * m) * (piNum / piDen)) (roundingAngle m k)
    rw [roundingAngle, ← mul_sub, abs_mul, abs_of_nonneg h0, ← roundingAngle] at hangle
    have hdist := mul_le_mul hhalf hpi (abs_nonneg _) (by norm_num)
    calc _ ≤ _ := abs_sub_le _ (Real.sin ((2 * k - 1) / (4 * m) * (piNum / piDen))) _
      _ ≤ 1 / 10 ^ 21 + 1 / 2 * (1 / 10 ^ 20) := add_le_add htaylor (hangle.trans hdist)
      _ ≤ 1 / 10 ^ 20 := by norm_num
  · rw [angleAtMost, sineAtMost_iff hv]
    push_cast
    rw [mul_div_mul_comm]

/-- The largest angle compared is π / (4m) short of a quarter turn, so its sine is well below 1. -/
theorem sin_roundingAngle_lt (hk : 1 ≤ k) (hkm : k ≤ m) (hm : m < 2 ^ 31) :
    Real.sin (roundingAngle m k) < 1 - 1 / 10 ^ 20 := by
  obtain ⟨h0, h1⟩ := roundingAngle_bounds hk hkm
  have hm1 : (1 : ℝ) ≤ m := by exact_mod_cast hk.trans hkm
  have hm31 : (m : ℝ) ≤ 2 ^ 31 := by exact_mod_cast hm.le
  have hpi := Real.pi_pos
  have hgap : 0 ≤ Real.pi / (4 * m) := by positivity
  have hgap_le : Real.pi / (4 * m) ≤ Real.pi := div_le_self hpi.le (by linarith)
  calc Real.sin (roundingAngle m k) ≤ Real.sin (Real.pi / 2 - Real.pi / (4 * m)) :=
        Real.sin_le_sin_of_le_of_le_pi_div_two (by linarith) (by linarith) h1
    _ = Real.cos (Real.pi / (4 * m)) := Real.sin_pi_div_two_sub _
    _ ≤ 1 - 2 / Real.pi ^ 2 * (Real.pi / (4 * m)) ^ 2 :=
        Real.cos_le_one_sub_mul_cos_sq ((abs_of_nonneg hgap).trans_le hgap_le)
    _ = 1 - 1 / (8 * m ^ 2) := by field_simp; ring
    _ ≤ 1 - 1 / (8 * (2 ^ 31) ^ 2) := by gcongr
    _ < 1 - 1 / 10 ^ 20 := by norm_num

end RoundingAngle

/-! ### From a sine back to its angle

A ratio other than 1 is at least 1 / 65536 below it, and there the sine is steep enough: a sine that is off by 10^−20 comes from
an angle that is off by at most 6·10^−17. -/

section Steepness

variable {y θ : ℝ}

theorem le_cos_arcsin (h0 : 0 ≤ y) (h1 : y ≤ 65535 / 65536) : 1 / 256 ≤ Real.cos (Real.arcsin y) := by
  rw [Real.cos_arcsin]
  refine Real.le_sqrt_of_sq_le ?_
  nlinarith

/-- An angle off by 6·10^−17 moves the sine by more than 10^−20, on both sides. -/
theorem sin_arcsin_shift (h0 : 0 ≤ y) (h1 : y ≤ 65535 / 65536) :
    y + 1 / 10 ^ 20 < Real.sin (Real.arcsin y + 6 / 10 ^ 17) ∧
      Real.sin (Real.arcsin y - 6 / 10 ^ 17) < y - 1 / 10 ^ 20 := by
  have hcos := le_cos_arcsin h0 h1
  have hsin : (5 / 10 ^ 17 : ℝ) ≤ Real.sin (6 / 10 ^ 17) :=
    le_trans (by norm_num) (Real.sin_gt_sub_cube (by norm_num : (0 : ℝ) < 6 / 10 ^ 17)).le
  have hcos_lo := mul_le_mul_of_nonneg_left (Real.one_sub_sq_div_two_le_cos (x := 6 / 10 ^ 17)) h0
  have hcos_hi := mul_le_mul_of_nonneg_left (Real.cos_le_one (6 / 10 ^ 17)) h0
  have hprod : 1 / 256 * (5 / 10 ^ 17) ≤ Real.cos (Real.arcsin y) * Real.sin (6 / 10 ^ 17) :=
    mul_le_mul hcos hsin (by norm_num) (by linarith)
  rw [Real.sin_add, Real.sin_sub, Real.sin_arcsin (by linarith) (by linarith)]
  norm_num at hcos_lo hcos_hi hprod ⊢
  constructor <;> linarith

theorem le_arcsin_add_of_sin_le (hθ : θ ≤ Real.pi / 2) (h0 : 0 ≤ y) (h1 : y ≤ 65535 / 65536)
    (h : Real.sin θ ≤ y + 1 / 10 ^ 20) : θ ≤ Real.arcsin y + 6 / 10 ^ 17 := by
  by_contra! hlt
  have hlo := Real.neg_pi_div_two_le_arcsin y
  have hsin := Real.sin_le_sin_of_le_of_le_pi_div_two (by linarith) hθ hlt.le
  linarith [(sin_arcsin_shift h0 h1).1]

theorem arcsin_sub_le_of_le_sin (hθ : -(Real.pi / 2) ≤ θ) (h0 : 0 ≤ y) (h1 : y ≤ 65535 / 65536)
    (h : y - 1 / 10 ^ 20 ≤ Real.sin θ) : Real.arcsin y - 6 / 10 ^ 17 ≤ θ := by
  by_contra! hlt
  have hhi := Real.arcsin_le_pi_div_two y
  have hsin := Real.sin_le_sin_of_le_of_le_pi_div_two hθ (by linarith) hlt.le
  linarith [(sin_arcsin_shift h0 h1).2]

end Steepness

theorem ratio_eq_one_or_le {x : Nat} (hx : x ≤ 65536) : (x / 65536 : ℝ) = 1 ∨ (x / 65536 : ℝ) ≤ 65535 / 65536 := by
  obtain rfl | hlt := hx.eq_or_lt
  · exact .inl (by norm_num)
  · have : (x : ℝ) ≤ 65535 := by exact_mod_cast Nat.le_of_lt_succ hlt
    exact .inr (by gcongr)

/-- An angle that passes the comparison is at most the exact arcsine, but for the error of the evaluation. -/
theorem roundingAngle_le_of_angleAtMost {m x k : Nat} (hk : 1 ≤ k) (hkm : k ≤ m) (hx : x ≤ 65536)
    (h : angleAtMost m x k = true) : roundingAngle m k ≤ Real.arcsin (x / 65536) + 6 / 10 ^ 17 := by
  obtain ⟨approx, hclose, hiff⟩ := angleAtMost_compares hk hkm x
  have hle := hiff.mp h
  have hgap : 0 ≤ Real.pi / (4 * m) := by positivity
  have htop := (roundingAngle_bounds hk hkm).2
  obtain hone | hlt := ratio_eq_one_or_le hx
  · rw [hone, Real.arcsin_one]
    linarith
  · exact le_arcsin_add_of_sin_le (by linarith) (by positivity) hlt (by linarith [(abs_le.mp hclose).1])

/-- An angle that fails the comparison is at least the exact arcsine, but for the error of the evaluation. -/
theorem arcsin_le_of_not_angleAtMost {m x k : Nat} (hk : 1 ≤ k) (hkm : k ≤ m) (hm : m < 2 ^ 31) (hx : x ≤ 65536)
    (h : angleAtMost m x k = false) : Real.arcsin (x / 65536) - 6 / 10 ^ 17 ≤ roundingAngle m k := by
  obtain ⟨approx, hclose, hiff⟩ := angleAtMost_compares hk hkm x
  have hgt : (x / 65536 : ℝ) < approx := not_le.mp (hiff.not.mp (by simp [h]))
  have hsin : (x / 65536 : ℝ) - 1 / 10 ^ 20 ≤ Real.sin (roundingAngle m k) := by linarith [(abs_le.mp hclose).2]
  have h0 := (roundingAngle_bounds hk hkm).1
  obtain hone | hlt := ratio_eq_one_or_le hx
  · have := sin_roundingAngle_lt hk hkm hm
    linarith
  · exact arcsin_sub_le_of_le_sin (by linarith [Real.pi_pos]) (by positivity) hlt hsin

end Sys2Proof.Machine
end

section
/-! SUPPORT. ASIN and ACOS (44_trig.md R123 to R126): the bisection ends at the scaled arcsine rounded, which gives the two angle
maps, their ranges and their order. -/

namespace Sys2Proof.Machine

/-! ### The magnitude -/

theorem arcsineMagnitude_le (m x : Nat) : arcsineMagnitude m x ≤ m :=
  Nat.le_of_lt_succ (bisect_range _ _ _ _ m.succ_pos).2

/-- The bisection ends at the last angle k that passes and before the first one that fails, so the scaled arcsine lies between
k − 1/2 and k + 1/2, but for the error of the evaluation. -/
theorem abs_arcsineMagnitude_sub_le {m x : Nat} (hm0 : 0 < m) (hm : m < 2 ^ 31) (hx : x ≤ 65536) :
    |(arcsineMagnitude m x : ℝ) - Real.arcsin (x / 65536) * m / (Real.pi / 2)| ≤ 1 / 2 + 1 / 10 ^ 7 := by
  have hle := arcsineMagnitude_le m x
  obtain ⟨hlast, hnext⟩ := bisect_spec (angleAtMost m x) 33 0 (m + 1) m.succ_pos (by omega)
  rw [← arcsineMagnitude] at hlast hnext
  generalize arcsineMagnitude m x = k at hle hlast hnext ⊢
  have hpi := Real.pi_gt_three
  have hm0' : (0 : ℝ) < m := by exact_mod_cast hm0
  have hm' : (m : ℝ) ≤ 2 ^ 31 := by exact_mod_cast hm.le
  have hscale : 0 ≤ m / (Real.pi / 2) := by positivity
  have hslack : 6 / 10 ^ 17 * (m / (Real.pi / 2)) ≤ 1 / 10 ^ 7 := by
    calc 6 / 10 ^ 17 * (m / (Real.pi / 2)) ≤ 6 / 10 ^ 17 * (2 ^ 31 / (3 / 2)) := by gcongr
      _ ≤ 1 / 10 ^ 7 := by norm_num
  have htie (j : Nat) : roundingAngle m j * (m / (Real.pi / 2)) = j - 1 / 2 := by
    rw [roundingAngle]
    field_simp
    ring
  have hquarter : Real.pi / 2 * (m / (Real.pi / 2)) = m := by field_simp
  have h0 : 0 ≤ Real.arcsin (x / 65536) := Real.arcsin_nonneg.mpr (by positivity)
  have h1 := Real.arcsin_le_pi_div_two (x / 65536)
  rw [mul_div_assoc, abs_le]
  constructor
  · obtain rfl | hlt := hle.eq_or_lt
    · have := mul_le_mul_of_nonneg_right h1 hscale
      linarith
    · have hfail := hnext.resolve_left (by omega)
      have := mul_le_mul_of_nonneg_right (arcsin_le_of_not_angleAtMost (by omega) hlt hm hx hfail) hscale
      rw [htie] at this
      push_cast at this
      linarith
  · obtain rfl | hpos := Nat.eq_zero_or_pos k
    · have := mul_nonneg h0 hscale
      push_cast
      linarith
    · have hpass := hlast.resolve_left (by omega)
      have := mul_le_mul_of_nonneg_right (roundingAngle_le_of_angleAtMost hpos hle hx hpass) hscale
      rw [htie] at this
      linarith

theorem sineAtMost_mono {u v : Int} (hv : 0 < v) {x x' : Int} (hx : x ≤ x') (h : sineAtMost u v x = true) :
    sineAtMost u v x' = true := by
  rw [sineAtMost_iff hv] at h ⊢
  have : (x : ℝ) ≤ x' := by exact_mod_cast hx
  exact h.trans (by gcongr)

theorem arcsineMagnitude_mono {m : Nat} (hm : 0 < m) {x x' : Nat} (hx : x ≤ x') :
    arcsineMagnitude m x ≤ arcsineMagnitude m x' :=
  bisect_mono (fun _ => sineAtMost_mono (by simp only [piDen]; positivity) (Int.ofNat_le.mpr hx)) _ _ _ m.succ_pos

/-! ### With the sign -/

theorem abs_arcsineScaled_le (m : Nat) (xq : Int) : |arcsineScaled m xq| ≤ m := by
  have h (x : Nat) : (arcsineMagnitude m x : Int) ≤ m := by exact_mod_cast arcsineMagnitude_le m x
  unfold arcsineScaled
  split <;> simp [h]

/-- The arcsine is odd, so the bound holds for both signs. -/
theorem abs_arcsineScaled_sub_le {m : Nat} {xq : Int} (hm0 : 0 < m) (hm : m < 2 ^ 31) (hlo : -65536 ≤ xq)
    (hhi : xq ≤ 65536) :
    |(arcsineScaled m xq : ℝ) - Real.arcsin (xq / 65536) * m / (Real.pi / 2)| ≤ 1 / 2 + 1 / 10 ^ 7 := by
  unfold arcsineScaled
  split
  · have h := abs_arcsineMagnitude_sub_le (x := (-xq).toNat) hm0 hm (by omega)
    have hcast : (((-xq).toNat : Nat) : ℝ) = -xq := by exact_mod_cast Int.toNat_of_nonneg (a := -xq) (by omega)
    rw [hcast, neg_div, Real.arcsin_neg] at h
    rw [abs_sub_comm]
    convert h using 2
    push_cast
    ring
  · have h := abs_arcsineMagnitude_sub_le (x := xq.toNat) hm0 hm (by omega)
    have hcast : ((xq.toNat : Nat) : ℝ) = xq := by exact_mod_cast Int.toNat_of_nonneg (a := xq) (by omega)
    rw [hcast] at h
    exact_mod_cast h

theorem arcsineScaled_mono {m : Nat} (hm : 0 < m) {xq xq' : Int} (h : xq ≤ xq') :
    arcsineScaled m xq ≤ arcsineScaled m xq' := by
  unfold arcsineScaled
  split_ifs with hneg hneg'
  · have := arcsineMagnitude_mono hm (show (-xq').toNat ≤ (-xq).toNat by omega)
    omega
  · omega
  · omega
  · have := arcsineMagnitude_mono hm (show xq.toNat ≤ xq'.toNat by omega)
    omega

/-! ### The angle maps -/

theorem two_pow_pred_eq {R : Type} [Semiring R] {n : Nat} (h2 : 2 ≤ n) : (2 : R) ^ (n - 1) = 2 * 2 ^ (n - 2) := by
  rw [← pow_succ', show n - 2 + 1 = n - 1 by omega]

/-- ASIN's scale is one the magnitude is evaluated for. -/
theorem asin_scale_bounds {n : Nat} (h2 : 2 ≤ n) (h32 : n ≤ 32) : 0 < 2 ^ (n - 1) - 1 ∧ 2 ^ (n - 1) - 1 < 2 ^ 31 := by
  have hlo := Nat.pow_le_pow_right two_pos (show 1 ≤ n - 1 by omega)
  have hhi := Nat.pow_le_pow_right two_pos (show n - 1 ≤ 31 by omega)
  omega

/-- Settles O58: the arcsine map is the evaluator on the scale 2^(N−1) − 1. -/
theorem asinAngleIsTheRealArcsine : Obligations.AsinAngleIsTheRealArcsine := by
  intro n xq h2 h32 hlo hhi
  obtain ⟨hm0, hm⟩ := asin_scale_bounds h2 h32
  have h := abs_arcsineScaled_sub_le hm0 hm hlo hhi
  rwa [Nat.cast_sub Nat.one_le_two_pow, Nat.cast_pow, Nat.cast_ofNat, Nat.cast_one] at h

/-- Settles O59: arccos x = π/2 − arcsin x, and a quarter turn is the integer 2^(N−2) on the scale of the arccosine map. -/
theorem acosAngleIsTheRealArccosine : Obligations.AcosAngleIsTheRealArccosine := by
  intro n xq h2 h32 hlo hhi
  have hm : 2 ^ (n - 2) < 2 ^ 31 := Nat.pow_lt_pow_right one_lt_two (by omega)
  have h := abs_arcsineScaled_sub_le (Nat.two_pow_pos (n - 2)) hm hlo hhi
  have harccos : Real.arccos ((xq : ℝ) / 65536) * 2 ^ (n - 1) / Real.pi =
      2 ^ (n - 2) - Real.arcsin (xq / 65536) * (2 ^ (n - 2) : Nat) / (Real.pi / 2) := by
    rw [Real.arccos, two_pow_pred_eq h2]
    push_cast
    field_simp
  rw [harccos, acosAngle, ← abs_neg]
  push_cast at h ⊢
  convert h using 2
  ring

/-- Settles O57: the two commands respond with the angle maps, whose ranges follow from that of the magnitude. -/
theorem asinAndAcosResults : Obligations.AsinAndAcosResults := by
  intro t a b s ht
  refine ⟨decode_cmdWord 0x53 t a b, decode_cmdWord 0x54 t a b, fun hn => ?_, fun hn => ?_⟩
  · exact ⟨perform_ok ht (if_pos hn) s, perform_ok ht (if_pos hn) s⟩
  · have hn' := Nat.not_lt.mpr hn
    refine ⟨perform_ok ht (if_neg hn') s, perform_ok ht (if_neg hn') s, ?_, ?_⟩
    · have hasin := abs_arcsineScaled_le (2 ^ (t.n.toNat - 1) - 1) (ratioQ16 t (val t a))
      rwa [Nat.cast_sub Nat.one_le_two_pow, Nat.cast_pow, Nat.cast_ofNat, Nat.cast_one] at hasin
    · obtain ⟨hlo, hhi⟩ := abs_le.mp (abs_arcsineScaled_le (2 ^ (t.n.toNat - 2)) (ratioQ16 t (val t a)))
      rw [acosAngle, two_pow_pred_eq hn]
      push_cast at hlo hhi ⊢
      constructor <;> omega

/-- Settles O60: the ratio mapper and the evaluator both keep the order, and the arccosine map reverses it. -/
theorem asinIsMonotoneAndAcosAntitone : Obligations.AsinIsMonotoneAndAcosAntitone := by
  intro t a b ht hn hab
  have hratio := ratioQ16_mono hn hab
  obtain ⟨hm0, -⟩ := asin_scale_bounds hn (width_le_of_wellFormed ht)
  exact ⟨arcsineScaled_mono hm0 hratio,
    Int.sub_le_sub_left (arcsineScaled_mono (Nat.two_pow_pos (t.n.toNat - 2)) hratio) _⟩

end Sys2Proof.Machine
end

section
/-! SUPPORT. Exceptions (60_exceptions.md R128 to R130, R138, R139, R143): an error is a response like any other. It writes the
latch and no more, so it neither stops the unit nor reaches the command after it, and an idle unit keeps it. -/

namespace Sys2Proof.Machine

/-! ### The latch -/

/-- The last delivery alone decides the latch (60_exceptions.md R139). -/
@[simp] theorem State.deliver_deliver (s : State) (first last : Result) :
    (s.deliver first).deliver last = s.deliver last := by
  cases last with
  | ok v => exact s.respond_deliver first v
  | error e => exact s.raise_deliver first e

/-- Settles O6: both are deliveries, which write the three fields of the latch and no other. -/
theorem respondAndRaiseWriteOnlyTheLatch : Obligations.RespondAndRaiseWriteOnlyTheLatch := by
  intro s v
  have hraise (e : UnitError) : s.raise e = { s with rvalid := true, r := 0, err := e.code } :=
    deliver_eq_responseOf s (.error e)
  exact ⟨deliver_eq_responseOf s (.ok v), hraise .format, hraise .range, hraise .divideByZero, hraise .unsupportedWidth,
    hraise .illegalCommand⟩

/-- A command completes the same after any delivery. -/
theorem completeCommand_deliver (c : Command) (s : State) (previous : Result) :
    completeCommand c (s.deliver previous) = completeCommand c s := by
  obtain ⟨result, hcomplete⟩ := completeCommand_delivers c
  rw [hcomplete, hcomplete, State.deliver_deliver]

/-- Settles O14: the previous response is a delivery, and the command's own overwrites it. -/
theorem previousResponseDoesNotAffectACommand : Obligations.PreviousResponseDoesNotAffectACommand :=
  fun c s e v => ⟨completeCommand_deliver c s (.error e), completeCommand_deliver c s (.ok v)⟩

/-! ### Steps -/

theorem step_of_quiet {s s' : State} (h : cycle s = .quiet s') : step s = .next s' := by
  simp [step, h]

theorem step_of_complete {s s' : State} {c : Command} (h : cycle s = .complete c s') :
    step s = completeCommand c s' := by
  simp [step, h]

/-- Settles O11: a quiet cycle answers its state, and a command that completes delivers a response. -/
theorem everyStepAnswersANextState : Obligations.EveryStepAnswersANextState := by
  intro s
  cases hcycle : cycle s with
  | quiet s' => exact ⟨s', step_of_quiet hcycle⟩
  | complete c s' =>
    obtain ⟨result, hcomplete⟩ := completeCommand_delivers c
    exact ⟨s'.deliver result, (step_of_complete hcycle).trans (hcomplete s')⟩

/-- With no command in progress and no reset, a cycle is a ready cycle. -/
theorem cycle_of_ready {s : State} (hready : s.inProgress = none) (hreset : ∀ o rest, s.inputs ≠ .reset o :: rest) :
    cycle s = readyCycle s := by
  obtain ⟨o, rest, hinputs, _⟩ | ⟨_, ⟨p, hbusy, _⟩ | ⟨_, hcycle⟩⟩ := cycle_cases s
  · exact absurd hinputs (hreset o rest)
  · simp [hready] at hbusy
  · exact hcycle

theorem readyCycle_of_exhausted {s : State} (h : s.inputs = []) : readyCycle s = .quiet s := by
  simp [readyCycle, h]

theorem readyCycle_of_idle {s : State} {rest : List HostInput} (h : s.inputs = .idle :: rest) :
    readyCycle s = .quiet { s with inputs := rest } := by
  simp [readyCycle, h]

/-- Settles O10: both are quiet ready cycles that leave the latch as it is. -/
theorem idleUnitHoldsItsLastResponse : Obligations.IdleUnitHoldsItsLastResponse := by
  refine fun s hready => ⟨fun hinputs => ?_, fun rest hinputs => ?_⟩
  · exact step_of_quiet ((cycle_of_ready hready (by simp [hinputs])).trans (readyCycle_of_exhausted hinputs))
  · exact step_of_quiet ((cycle_of_ready hready (by simp [hinputs])).trans (readyCycle_of_idle hinputs))

end Sys2Proof.Machine
end

section
/-! SUPPORT. Reset and timing (70_reset_and_hazards.md R144 to R147): what a cycle does by the input at its head and the command in
progress, and from that the run of one command from its acceptance, through its latency, to its completion. -/

namespace Sys2Proof.Machine

/-! ### Reset -/

/-- Settles O7: the latch holds no response and no command is in progress, so each clause of a sound latch is met. -/
theorem resetStateHoldsNoResponse : Obligations.ResetStateHoldsNoResponse :=
  ⟨rfl, rfl, rfl, rfl, by simp [State.latchSound, State.reset]⟩

/-- Reset wins over a command in progress and over whatever the host issues meanwhile. -/
theorem cycle_of_reset {s : State} {issued : Option Command} {rest : List HostInput}
    (h : s.inputs = .reset issued :: rest) : cycle s = .quiet { s with inputs := rest }.clear := by
  simp [cycle, h]

/-- Settles O8: it is a quiet cycle that clears the latch and the command in progress. -/
theorem resetCycleDiscardsEverything : Obligations.ResetCycleDiscardsEverything :=
  fun _ _ _ hinputs => step_of_quiet (cycle_of_reset hinputs)

/-! ### Acceptance -/

theorem readyCycle_of_issue {s : State} {c : Command} {rest : List HostInput} (h : s.inputs = .issue c :: rest) :
    readyCycle s = .quiet ({ s with inputs := rest }.accept c) := by
  simp [readyCycle, h]

theorem step_of_ready_issue {s : State} {c : Command} {rest : List HostInput} (hready : s.inProgress = none)
    (hinputs : s.inputs = .issue c :: rest) : step s = .next ({ s with inputs := rest }.accept c) :=
  step_of_quiet ((cycle_of_ready hready (by simp [hinputs])).trans (readyCycle_of_issue hinputs))

/-- Settles O9: acceptance, with the command's latency as the count that remains. -/
theorem acceptingACommandClearsRvalid : Obligations.AcceptingACommandClearsRvalid :=
  fun _ _ _ hready hinputs => ⟨_, step_of_ready_issue hready hinputs⟩

/-! ### A command in progress -/

/-- With a command in progress and no reset, a cycle is a busy cycle. -/
theorem cycle_of_busy {s : State} {p : InProgress} (hbusy : s.inProgress = some p)
    (hreset : ∀ o rest, s.inputs ≠ .reset o :: rest) : cycle s = busyCycle s p := by
  obtain ⟨o, rest, hinputs, _⟩ | ⟨_, ⟨q, hq, hcycle⟩ | ⟨hready, _⟩⟩ := cycle_cases s
  · exact absurd hinputs (hreset o rest)
  · rwa [Option.some.inj (hbusy.symm.trans hq)]
  · simp [hbusy] at hready

/-- The cycle after the last waiting cycle completes the command. -/
theorem step_of_elapsed {s : State} {c : Command} (hbusy : s.inProgress = some ⟨c, 0⟩)
    (hreset : ∀ o rest, s.inputs ≠ .reset o :: rest) :
    step s = completeCommand c { s with inProgress := none, inputs := waitInputs s.inputs } :=
  step_of_complete (cycle_of_busy hbusy hreset)

/-- A waiting cycle counts one down. -/
theorem step_of_waiting {s : State} {c : Command} {k : Nat} (hbusy : s.inProgress = some ⟨c, k + 1⟩)
    (hreset : ∀ o rest, s.inputs ≠ .reset o :: rest) :
    step s = .next { s with inProgress := some ⟨c, k⟩, inputs := waitInputs s.inputs } :=
  step_of_quiet (cycle_of_busy hbusy hreset)

/-- Settles O5: the cycle completes the command, and completing a decoded command is `exec` of it. -/
theorem stepRunsTheDecodedInstruction : Obligations.StepRunsTheDecodedInstruction := by
  refine fun s c i hbusy hreset hdecode => ⟨?_, fun c' rest hinputs => ?_, fun rest hinputs => ?_⟩
  · exact (step_of_elapsed hbusy hreset).trans (completeCommand_of_decoded hdecode _)
  · rw [hinputs, waitInputs_issue]
  · rw [hinputs, waitInputs_idle]

/-! ### Latency -/

theorem runCycles_one (s : State) : runCycles 1 s = step s := by
  cases h : step s <;> simp [runCycles, h]

/-- Cycles compose. -/
theorem runCycles_add {k : Nat} {s s' : State} (h : runCycles k s = .next s') (j : Nat) :
    runCycles (k + j) s = runCycles j s' := by
  induction k generalizing s with
  | zero => rw [Host.Outcome.next.inj h, Nat.zero_add]
  | succ k ih =>
    rw [Nat.add_right_comm]
    simp only [runCycles] at h ⊢
    split at h
    next => exact ih h
    next => cases h
    next => cases h

/-- A busy cycle leaves the inputs as they are exactly when the host presents nothing more or holds a command (log entry 12). -/
theorem waitInputs_eq_self_iff (inputs : List HostInput) :
    waitInputs inputs = inputs ↔ inputs = [] ∨ ∃ c rest, inputs = .issue c :: rest := by
  cases inputs with
  | nil => simp
  | cons x rest => cases x <;> simp [waitInputs]

theorem not_reset_of_waitInputs_eq_self {inputs : List HostInput} (h : waitInputs inputs = inputs) :
    ∀ o rest, inputs ≠ .reset o :: rest := by
  rintro o rest rfl
  simp [waitInputs] at h

/-- `k` waiting cycles count `k` down and change nothing else. -/
theorem runCycles_of_waiting {s : State} {c : Command} {m k : Nat} (hheld : waitInputs s.inputs = s.inputs)
    (hbusy : s.inProgress = some ⟨c, m + k⟩) : runCycles k s = .next { s with inProgress := some ⟨c, m⟩ } := by
  induction k generalizing s with
  | zero => rw [← Nat.add_zero m, ← hbusy]; rfl
  | succ k ih =>
    have hstep : runCycles 1 s = .next { s with inProgress := some ⟨c, m + k⟩ } := by
      rw [runCycles_one, step_of_waiting (k := m + k) hbusy (not_reset_of_waitInputs_eq_self hheld), hheld]
    rw [Nat.add_comm k, runCycles_add hstep]
    exact ih hheld rfl

/-- A command with `n` waiting cycles left completes in the cycle after them. -/
theorem runCycles_to_completion {s : State} {c : Command} {n : Nat} (hheld : waitInputs s.inputs = s.inputs)
    (hbusy : s.inProgress = some ⟨c, n⟩) : runCycles (n + 1) s = completeCommand c { s with inProgress := none } := by
  have hwait : runCycles n s = .next { s with inProgress := some ⟨c, 0⟩ } :=
    runCycles_of_waiting hheld (by rw [hbusy, Nat.zero_add])
  have hlast : step { s with inProgress := some ⟨c, 0⟩ } = completeCommand c { s with inProgress := none } := by
    simpa only [hheld] using
      step_of_elapsed (s := { s with inProgress := some ⟨c, 0⟩ }) rfl (not_reset_of_waitInputs_eq_self hheld)
  rw [runCycles_add hwait, runCycles_one, hlast]

theorem opField_eq (w : Word) : opField w = w.toNat % 2 ^ 7 := by
  rw [opField, toNat_field, pow_zero, Nat.div_one]

theorem widthField_eq (w : Word) : widthField w = w.toNat / 2 ^ 10 % 2 ^ 6 :=
  toNat_field w 10 6

/-- Settles O12: acceptance starts the count at LATENCY(op) − 1, the waiting cycles count it down to 0 with the inputs held, and the
cycle after them completes the command. -/
theorem responseAppearsLatencyCyclesAfterAcceptance : Obligations.ResponseAppearsLatencyCyclesAfterAcceptance := by
  intro s c rest hready hinputs hnext latency
  have hheld : waitInputs rest = rest := (waitInputs_eq_self_iff rest).mpr hnext
  have haccept : runCycles 1 s =
      .next { s with rvalid := false, inProgress := some ⟨c, latency - 1⟩, inputs := rest } := by
    rw [runCycles_one, step_of_ready_issue hready hinputs, State.accept, opField_eq, widthField_eq, Nat.add_sub_cancel]
  refine ⟨fun k hk => ?_, ?_⟩
  · have hbusy : some (⟨c, latency - 1⟩ : InProgress) = some ⟨c, latency - 1 - k + k⟩ := by
      rw [Nat.sub_add_cancel (Nat.le_sub_one_of_lt hk)]
    rw [runCycles_add haccept, runCycles_of_waiting hheld hbusy]
    exact ⟨_, rfl, rfl, rfl, rfl, rfl⟩
  · rw [runCycles_add haccept]
    exact runCycles_to_completion hheld rfl

end Sys2Proof.Machine
end
